-- ==== Sys2Proof/Word.lean ====
section
/-! DEFINITION. The two word types of the FG640: a byte of the host link and the seconds counter. -/

namespace Sys2Proof

/-- One byte of a frame on the host link (section 10.8, R184). -/
abbrev Byte := BitVec 8

/-- A value of the 32-bit seconds counter (R185); every stamp is one. -/
abbrev Seconds := BitVec 32

end Sys2Proof
end

