-- ==== Sys2Proof/Syntax.lean ====
section
/-! DEFINITION. The commands of the FG640: one constructor of `Instr` for each row of spec/opcode_table.json. A request
carries the station and tag of its frame and the frame's body as bytes (R172, R184); a field or time event carries what
the field reports. -/

namespace Sys2Proof

/-- The device type of a point (R1). -/
inductive PointKind where
  | absent | smoke | heat | breakglass | motion | contact | case | help | refuge
  deriving DecidableEq, Repr

/-- Leaf position that a door node reports (R82). -/
inductive Leaf where
  | opened | closed
  deriving DecidableEq, Repr

/-- Lock position that the node of a lockable door reports (R82). -/
inductive LockPos where
  | locked | unlocked
  deriving DecidableEq, Repr

/-- The station and tag bytes of a complete frame (R171, R184). -/
structure Header where
  station : Byte
  tag : Byte
  deriving DecidableEq, Repr

/-- The commands. The first group are complete frames from the host: each is taken at the event of its completion
(R172). The others are events of the link, the supply, the time base, the timers and the field lines. -/
inductive Instr where
  -- supervision, restart and link requests
  | pulseA (h : Header) (body : List Byte)
  | pulseB (h : Header) (body : List Byte)
  | superviseSet (h : Header) (body : List Byte)
  | resume (h : Header) (body : List Byte)
  | restart (h : Header) (body : List Byte)
  | range (h : Header) (body : List Byte)
  | reportMask (h : Header) (body : List Byte)
  -- queries: kind QUERY, one row for each query code; the body begins with the code (R183)
  | queryPoint (h : Header) (body : List Byte)
  | queryZone (h : Header) (body : List Byte)
  | queryDoor (h : Header) (body : List Byte)
  | queryCalls (h : Header) (body : List Byte)
  | queryPlan (h : Header) (body : List Byte)
  | querySign (h : Header) (body : List Byte)
  | queryRule (h : Header) (body : List Byte)
  | queryStatus (h : Header) (body : List Byte)
  | queryResetCause (h : Header) (body : List Byte)
  -- commissioning requests
  | loadZone (h : Header) (body : List Byte)
  | loadPoint (h : Header) (body : List Byte)
  | loadClass (h : Header) (body : List Byte)
  | loadDoor (h : Header) (body : List Byte)
  | loadPassage (h : Header) (body : List Byte)
  | loadSign (h : Header) (body : List Byte)
  | loadGroup (h : Header) (body : List Byte)
  | loadRule (h : Header) (body : List Byte)
  | loadLimits (h : Header) (body : List Byte)
  | commit (h : Header) (body : List Byte)
  | edit (h : Header) (body : List Byte)
  -- operating requests
  | setRegime (h : Header) (body : List Byte)
  | clearLatches (h : Header) (body : List Byte)
  | ackAlarm (h : Header) (body : List Byte)
  | cancelVerify (h : Header) (body : List Byte)
  | resetFire (h : Header) (body : List Byte)
  | silence (h : Header) (body : List Byte)
  | resound (h : Header) (body : List Byte)
  | armZone (h : Header) (body : List Byte)
  | disarmZone (h : Header) (body : List Byte)
  | resetIntruder (h : Header) (body : List Byte)
  | disablePoint (h : Header) (body : List Byte)
  | enablePoint (h : Header) (body : List Byte)
  | doorGuard (h : Header) (body : List Byte)
  | schedule (h : Header) (body : List Byte)
  | claimCall (h : Header) (body : List Byte)
  | releaseCall (h : Header) (body : List Byte)
  | closeCall (h : Header) (body : List Byte)
  | groupStop (h : Header) (body : List Byte)
  | groupRun (h : Header) (body : List Byte)
  | testStart (h : Header) (body : List Byte)
  /-- A complete frame whose kind code names no request (R172 step 2). -/
  | unknownKind (kind : Byte) (h : Header) (body : List Byte)
  -- events of the receiver and the transmitter
  /-- The frame being received is discarded (length or check); `bytes` are its bytes from the start byte (R171). -/
  | frameDiscard (bytes : List Byte)
  /-- More than 50 ms pass after the last of `bytes`, the bytes of the frame being received (R171). -/
  | frameByteTimeout (bytes : List Byte)
  | frameSent
  -- commit, restarts, supply and mains
  | commitCompletion
  | warmRestart
  | powerOn
  | resetLine
  /-- The mains-status input changes; `failed` is its new state (R112). -/
  | mainsChange (failed : Bool)
  -- time base, timers and field lines
  | timeBaseTick
  | supervisionExpiry
  /-- The exchange of a loop ends in an answer; `code` is the kind whose device code the answer carries, none for a code
  that matches no kind (R6, R7). -/
  | loopAnswer (loop : Nat) (code : Option PointKind) (reading : Byte) (tamper : Bool)
  | loopNoAnswer (loop : Nat)
  | fireTimerExpiry (zone : Nat)
  | alarmHoldExpiry
  | exitDelayExpiry (zone : Nat)
  | entryDelayExpiry (zone : Nat)
  | stationDemandExpiry (door : Nat)
  | confirmTimerExpiry (door : Nat)
  | heldTimerExpiry (door : Nat)
  | shuntTimerExpiry (door : Nat)
  | nodeWatchExpiry (door : Nat)
  /-- The door exchange in flight ends in a status; the lock is read for a lockable door only (R82). -/
  | doorStatus (leaf : Leaf) (lock : LockPos) (rex : Bool)
  | doorExchangeUnanswered
  | signSendComplete
  | ruleDelayExpiry (entry : Nat)
  | answerTimerExpiry (call : Nat)
  | stepTimerExpiry (group : Nat)
  | routePassCompletion
  | supplyBelowWorkingLevel
  | resetInputHeld
  deriving DecidableEq, Repr

end Sys2Proof
end

