-- ==== Sys2Proof/WellFormed.lean ====
section
/-! DEFINITION. Which commands can arrive at all: bodies that fit a frame (R184), the query code of each query row
(R183), kind codes of the UNKNOWN_KIND row (R172), and objects within their tables (the conventions of 00_scope.md). -/

namespace Sys2Proof

/-- The kind codes that name a request (the code table of R184). -/
def isRequestCode (k : Byte) : Bool :=
  let n := k.toNat
  (1 ≤ n && n ≤ 0x08) || (0x10 ≤ n && n ≤ 0x1A) || (0x20 ≤ n && n ≤ 0x33)

/-- A body of a complete frame holds at most 250 bytes (R171). -/
def bodyFits (body : List Byte) : Bool := body.length ≤ 250

/-- A QUERY body of the row with this query code (R183). -/
def queryFits (code : Nat) (body : List Byte) : Bool :=
  bodyFits body && (body.head?.map BitVec.toNat == some code)

/-- A QUERY body of the QUERY_STATUS row: code 7, or a QUERY that names no code at all, which R183 refuses. -/
def statusQueryFits (body : List Byte) : Bool :=
  bodyFits body && body.head?.all fun c => c.toNat == 7 || 9 ≤ c.toNat

/-- The bytes of a frame from its start byte: 0xC5, then at most 256 more (R171, R184). -/
def frameBytesFit (bytes : List Byte) : Bool :=
  bytes.head? == some 0xC5 && bytes.length ≤ 257

/-- The commands that can arrive. -/
def Instr.wellFormed : Instr → Bool
  | .pulseA _ b => bodyFits b
  | .pulseB _ b => bodyFits b
  | .superviseSet _ b => bodyFits b
  | .resume _ b => bodyFits b
  | .restart _ b => bodyFits b
  | .range _ b => bodyFits b
  | .reportMask _ b => bodyFits b
  | .queryPoint _ b => queryFits 0 b
  | .queryZone _ b => queryFits 1 b
  | .queryDoor _ b => queryFits 2 b
  | .queryCalls _ b => queryFits 3 b
  | .queryPlan _ b => queryFits 4 b
  | .querySign _ b => queryFits 5 b
  | .queryRule _ b => queryFits 6 b
  | .queryStatus _ b => statusQueryFits b
  | .queryResetCause _ b => queryFits 8 b
  | .loadZone _ b => bodyFits b
  | .loadPoint _ b => bodyFits b
  | .loadClass _ b => bodyFits b
  | .loadDoor _ b => bodyFits b
  | .loadPassage _ b => bodyFits b
  | .loadSign _ b => bodyFits b
  | .loadGroup _ b => bodyFits b
  | .loadRule _ b => bodyFits b
  | .loadLimits _ b => bodyFits b
  | .commit _ b => bodyFits b
  | .edit _ b => bodyFits b
  | .setRegime _ b => bodyFits b
  | .clearLatches _ b => bodyFits b
  | .ackAlarm _ b => bodyFits b
  | .cancelVerify _ b => bodyFits b
  | .resetFire _ b => bodyFits b
  | .silence _ b => bodyFits b
  | .resound _ b => bodyFits b
  | .armZone _ b => bodyFits b
  | .disarmZone _ b => bodyFits b
  | .resetIntruder _ b => bodyFits b
  | .disablePoint _ b => bodyFits b
  | .enablePoint _ b => bodyFits b
  | .doorGuard _ b => bodyFits b
  | .schedule _ b => bodyFits b
  | .claimCall _ b => bodyFits b
  | .releaseCall _ b => bodyFits b
  | .closeCall _ b => bodyFits b
  | .groupStop _ b => bodyFits b
  | .groupRun _ b => bodyFits b
  | .testStart _ b => bodyFits b
  | .unknownKind k _ b => bodyFits b && !isRequestCode k
  | .frameDiscard bytes => frameBytesFit bytes
  | .frameByteTimeout bytes => frameBytesFit bytes
  | .frameSent => true
  | .commitCompletion => true
  | .warmRestart => true
  | .powerOn => true
  | .resetLine => true
  | .mainsChange _ => true
  | .timeBaseTick => true
  | .supervisionExpiry => true
  | .loopAnswer l c _ _ => decide (l < 4) && c != some .absent
  | .loopNoAnswer l => decide (l < 4)
  | .fireTimerExpiry z => decide (z < 48)
  | .alarmHoldExpiry => true
  | .exitDelayExpiry z => decide (z < 48)
  | .entryDelayExpiry z => decide (z < 48)
  | .stationDemandExpiry d => decide (d < 32)
  | .confirmTimerExpiry d => decide (d < 32)
  | .heldTimerExpiry d => decide (d < 32)
  | .shuntTimerExpiry d => decide (d < 32)
  | .nodeWatchExpiry d => decide (d < 32)
  | .doorStatus _ _ _ => true
  | .doorExchangeUnanswered => true
  | .signSendComplete => true
  | .ruleDelayExpiry e => decide (e < 128)
  | .answerTimerExpiry c => decide (c < 256)
  | .stepTimerExpiry g => decide (g < 8)
  | .routePassCompletion => true
  | .supplyBelowWorkingLevel => true
  | .resetInputHeld => true

end Sys2Proof
end

