-- ==== Sys2Proof/Decode.lean ====
section
/-! DEFINITION. The opcode table gives no row any bits, so `decodeTableWord` reads none. The rest of the file is what the
FG640 does decode: the frames of the host link (R171, R184), their check, and the command that a complete frame is. -/

namespace Sys2Proof

/-- The command that a word spells by the opcode table's bits: spec/opcode_table.json gives no row a bit. -/
def decodeTableWord (nbits w : Nat) : Option Instr :=
  match nbits, w with
  | _, _ => none

/-! ### The check (R184): CRC-16, polynomial 0x1021, initial value 0xFFFF, most significant bit first -/

def crcBit (c : BitVec 16) (bit : Bool) : BitVec 16 :=
  if c.msb != bit then (c <<< 1) ^^^ 0x1021 else c <<< 1

def crcByte (c : BitVec 16) (x : Byte) : BitVec 16 :=
  [7, 6, 5, 4, 3, 2, 1, 0].foldl (fun c i => crcBit c (x.getLsbD i)) c

def crc16 (bytes : List Byte) : BitVec 16 := bytes.foldl crcByte 0xFFFF

/-- A check as it is sent, most significant byte first. -/
def checkBytes (c : BitVec 16) : List Byte := [c.extractLsb' 8 8, c.extractLsb' 0 8]

/-! ### Frames (R171, R184) -/

/-- The start byte of a frame. -/
def startByte : Byte := 0xC5

/-- The bytes that a frame's check covers: length, header, body. -/
def frameCore (kind : Byte) (h : Header) (body : List Byte) : List Byte :=
  BitVec.ofNat 8 body.length :: kind :: h.station :: h.tag :: body

/-- The bytes of a frame. -/
def encodeFrame (kind : Byte) (h : Header) (body : List Byte) : List Byte :=
  startByte :: frameCore kind h body ++ checkBytes (crc16 (frameCore kind h body))

/-- What the receiver finds at a start byte (R171). -/
inductive FrameScan where
  | incomplete
  | bad
  | complete (kind : Byte) (h : Header) (body rest : List Byte)
  deriving DecidableEq, Repr

/-- The bytes after a length byte `n` of at most 250: header, body and check (R171). -/
def scanRest (n : Byte) (bytes : List Byte) : FrameScan :=
  match bytes with
  | kind :: station :: tag :: more =>
    if more.length < n.toNat + 2 then .incomplete
    else
      let body := more.take n.toNat
      let check := (more.drop n.toNat).take 2
      if check = checkBytes (crc16 (frameCore kind ⟨station, tag⟩ body))
      then .complete kind ⟨station, tag⟩ body (more.drop (n.toNat + 2))
      else .bad
  | _ => .incomplete

/-- The bytes from a start byte on (R171). -/
def scanFrame (bytes : List Byte) : FrameScan :=
  match bytes with
  | _ :: n :: more => if 250 < n.toNat then .bad else scanRest n more
  | _ => .incomplete

/-! ### The command of a complete frame (the code table of R184, R183) -/

/-- A complete frame of kind QUERY, by its query code; a frame that names no code is the QUERY_STATUS row's (log 11). -/
def queryOf (h : Header) (body : List Byte) : Instr :=
  match body.head?.map BitVec.toNat with
  | some 0 => .queryPoint h body
  | some 1 => .queryZone h body
  | some 2 => .queryDoor h body
  | some 3 => .queryCalls h body
  | some 4 => .queryPlan h body
  | some 5 => .querySign h body
  | some 6 => .queryRule h body
  | some 8 => .queryResetCause h body
  | _ => .queryStatus h body

/-- The command that a complete frame is. -/
def commandOf (kind : Byte) (h : Header) (body : List Byte) : Instr :=
  match kind.toNat with
  | 0x01 => .pulseA h body
  | 0x02 => .pulseB h body
  | 0x03 => .superviseSet h body
  | 0x04 => .resume h body
  | 0x05 => .restart h body
  | 0x06 => .range h body
  | 0x07 => .reportMask h body
  | 0x08 => queryOf h body
  | 0x10 => .loadZone h body
  | 0x11 => .loadPoint h body
  | 0x12 => .loadClass h body
  | 0x13 => .loadDoor h body
  | 0x14 => .loadPassage h body
  | 0x15 => .loadSign h body
  | 0x16 => .loadGroup h body
  | 0x17 => .loadRule h body
  | 0x18 => .loadLimits h body
  | 0x19 => .commit h body
  | 0x1A => .edit h body
  | 0x20 => .setRegime h body
  | 0x21 => .clearLatches h body
  | 0x22 => .ackAlarm h body
  | 0x23 => .cancelVerify h body
  | 0x24 => .resetFire h body
  | 0x25 => .silence h body
  | 0x26 => .resound h body
  | 0x27 => .armZone h body
  | 0x28 => .disarmZone h body
  | 0x29 => .resetIntruder h body
  | 0x2A => .disablePoint h body
  | 0x2B => .enablePoint h body
  | 0x2C => .doorGuard h body
  | 0x2D => .schedule h body
  | 0x2E => .claimCall h body
  | 0x2F => .releaseCall h body
  | 0x30 => .closeCall h body
  | 0x31 => .groupStop h body
  | 0x32 => .groupRun h body
  | 0x33 => .testStart h body
  | _ => .unknownKind kind h body

/-- Kind, header and body of the frame that a request row is; none for the rows that are no frames. -/
def frameOf : Instr → Option (Byte × Header × List Byte)
  | .pulseA h b => some (0x01, h, b)
  | .pulseB h b => some (0x02, h, b)
  | .superviseSet h b => some (0x03, h, b)
  | .resume h b => some (0x04, h, b)
  | .restart h b => some (0x05, h, b)
  | .range h b => some (0x06, h, b)
  | .reportMask h b => some (0x07, h, b)
  | .queryPoint h b => some (0x08, h, b)
  | .queryZone h b => some (0x08, h, b)
  | .queryDoor h b => some (0x08, h, b)
  | .queryCalls h b => some (0x08, h, b)
  | .queryPlan h b => some (0x08, h, b)
  | .querySign h b => some (0x08, h, b)
  | .queryRule h b => some (0x08, h, b)
  | .queryStatus h b => some (0x08, h, b)
  | .queryResetCause h b => some (0x08, h, b)
  | .loadZone h b => some (0x10, h, b)
  | .loadPoint h b => some (0x11, h, b)
  | .loadClass h b => some (0x12, h, b)
  | .loadDoor h b => some (0x13, h, b)
  | .loadPassage h b => some (0x14, h, b)
  | .loadSign h b => some (0x15, h, b)
  | .loadGroup h b => some (0x16, h, b)
  | .loadRule h b => some (0x17, h, b)
  | .loadLimits h b => some (0x18, h, b)
  | .commit h b => some (0x19, h, b)
  | .edit h b => some (0x1A, h, b)
  | .setRegime h b => some (0x20, h, b)
  | .clearLatches h b => some (0x21, h, b)
  | .ackAlarm h b => some (0x22, h, b)
  | .cancelVerify h b => some (0x23, h, b)
  | .resetFire h b => some (0x24, h, b)
  | .silence h b => some (0x25, h, b)
  | .resound h b => some (0x26, h, b)
  | .armZone h b => some (0x27, h, b)
  | .disarmZone h b => some (0x28, h, b)
  | .resetIntruder h b => some (0x29, h, b)
  | .disablePoint h b => some (0x2A, h, b)
  | .enablePoint h b => some (0x2B, h, b)
  | .doorGuard h b => some (0x2C, h, b)
  | .schedule h b => some (0x2D, h, b)
  | .claimCall h b => some (0x2E, h, b)
  | .releaseCall h b => some (0x2F, h, b)
  | .closeCall h b => some (0x30, h, b)
  | .groupStop h b => some (0x31, h, b)
  | .groupRun h b => some (0x32, h, b)
  | .testStart h b => some (0x33, h, b)
  | .unknownKind k h b => some (k, h, b)
  | .frameDiscard _ => none
  | .frameByteTimeout _ => none
  | .frameSent => none
  | .commitCompletion => none
  | .warmRestart => none
  | .powerOn => none
  | .resetLine => none
  | .mainsChange _ => none
  | .timeBaseTick => none
  | .supervisionExpiry => none
  | .loopAnswer _ _ _ _ => none
  | .loopNoAnswer _ => none
  | .fireTimerExpiry _ => none
  | .alarmHoldExpiry => none
  | .exitDelayExpiry _ => none
  | .entryDelayExpiry _ => none
  | .stationDemandExpiry _ => none
  | .confirmTimerExpiry _ => none
  | .heldTimerExpiry _ => none
  | .shuntTimerExpiry _ => none
  | .nodeWatchExpiry _ => none
  | .doorStatus _ _ _ => none
  | .doorExchangeUnanswered => none
  | .signSendComplete => none
  | .ruleDelayExpiry _ => none
  | .answerTimerExpiry _ => none
  | .stepTimerExpiry _ => none
  | .routePassCompletion => none
  | .supplyBelowWorkingLevel => none
  | .resetInputHeld => none

/-- The bytes on the line of a request row, for a row that is a frame. -/
def Instr.bytes (i : Instr) : Option (List Byte) := (frameOf i).map fun f => encodeFrame f.1 f.2.1 f.2.2

/-- The command that the bytes of a frame, from its start byte on, complete (R171, R172). -/
def readFrame (bytes : List Byte) : Option Instr :=
  match scanFrame bytes with
  | .complete kind h body _ => some (commandOf kind h body)
  | _ => none

/-! ### Hunting again after a discarded frame (R171) -/

/-- The receiver hunts through bytes it holds: those before a start byte are dropped, a bad frame is given up and the hunt
goes on at the byte after its start byte. What remains is a frame under way, or a complete frame about to be handed on.
After a timeout a frame under way is given up too, for its gap is the same. -/
def hunt (timeout : Bool) : Nat → List Byte → List Byte
  | 0, _ => []
  | fuel + 1, bytes =>
    match bytes with
    | [] => []
    | b :: rest =>
      if b = startByte then
        match scanFrame (b :: rest) with
        | .complete _ _ _ _ => b :: rest
        | .incomplete => if timeout then hunt timeout fuel rest else b :: rest
        | .bad => hunt timeout fuel rest
      else hunt timeout fuel rest

/-- What the receiver holds after it discarded the frame of these bytes (R171). -/
def afterDiscard (timeout : Bool) (bytes : List Byte) : List Byte := hunt timeout bytes.length bytes.tail

/-- What the receiver holds after a complete frame was handed on: it hunts on from the byte after the check (R171 to
R173). -/
def afterComplete (held : List Byte) : List Byte :=
  match scanFrame held with
  | .complete _ _ _ rest => hunt false (rest.length + 1) rest
  | _ => []

end Sys2Proof
end

