-- ==== Sys2Proof/Machine/State.lean ====
section
/-! DEFINITION. The state of the FG640, block by block (the table 'Blocks and how they work together' of 00_scope.md),
with the queue of waiting commands, the outcomes' reasons, and the state after the first power-on. Every field is plain
data. A table of records is a Vector; an entry of an optional table is none while the manual calls it unloaded. -/

namespace Sys2Proof.Machine

/-! ### Timers (the paragraph 'Time' of 00_scope.md, R185) -/

/-- A running timer: the time base at its start and its length in seconds. What is left of it is
`Timer.left`; a timer that is cancelled or stopped is absent. -/
structure Timer where
  start : Seconds
  length : Nat
  deriving DecidableEq, Repr

/-! ### Points, classes and loops (Chapters 1 and 2) -/

/-- Condition of a point (R1). -/
inductive Condition where
  | normal | pre | active
  deriving DecidableEq, Repr

/-- Health of a point (R1, R12). -/
inductive Health where
  | ok | noAnswer | drift | wrongKind
  deriving DecidableEq, Repr

/-- The arithmetic part of a SMOKE or HEAT point (R1): a SMOKE point uses the baseline, the learnt flag and the reading
count, a HEAT point the history ring, whose length is the fill count; both use the confirm count. -/
structure Arith where
  baseline : Nat := 0
  learnt : Bool := false
  readings : Nat := 0
  ring : List Nat := []
  confirm : Nat := 0
  deriving DecidableEq, Repr

/-- A point record (R1) with the detection engine's clear mark (R28). The defaults are R19's values. -/
structure Point where
  kind : PointKind := .absent
  zone : Nat := 0
  cls : Nat := 0
  enabled : Bool := false
  entryRoute : Bool := false
  condition : Condition := .normal
  health : Health := .ok
  held : Nat := 0
  misses : Nat := 0
  arith : Option Arith := none
  clearMark : Bool := false
  deriving DecidableEq, Repr

/-- A loaded detection class (R22). -/
structure ClassRec where
  tpDay : Nat
  taDay : Nat
  tpNight : Nat
  taNight : Nat
  k : Nat
  w : Nat
  l : Nat
  hf : Nat
  hr : Nat
  deriving DecidableEq, Repr

/-- The exchange in flight on a loop (R4). -/
inductive Exchange where
  | sweep (addr : Nat)
  | confirm (addr : Nat)
  deriving DecidableEq, Repr

/-- A loop controller (R4, R13). -/
structure Loop where
  sweep : Option Nat := none
  exchange : Option Exchange := none
  confirmQueue : List Nat := []
  deriving DecidableEq, Repr

/-! ### Zones and sounders (Chapters 3 and 4) -/

inductive ZoneKind where
  | gallery | circulation | stair | store | exit
  deriving DecidableEq, Repr

inductive ArmPolicy where
  | never | night | always
  deriving DecidableEq, Repr

/-- Why a zone entered ALARM (R40). -/
inductive AlarmCause where
  | point | breakglass | secondPoint | ackExpiry | searchExpiry | night | autonomous
  deriving DecidableEq, Repr

/-- The phase of VERIFY, with the ack station in SEARCH (R40). -/
inductive Phase where
  | ackWait
  | search (station : Nat)
  deriving DecidableEq, Repr

/-- The fire state with the fields that are present in it (R40). -/
inductive Fire where
  | quiet
  | pre
  | verify (phase : Phase) (timer : Timer) (origin : Nat)
  | alarm (cause : AlarmCause) (point : Option Nat) (stamp : Seconds) (origin : Option Nat) (ackStation : Option Nat)
  deriving DecidableEq, Repr

/-- The point or door that an entry or an intrusion names (R63). -/
inductive Source where
  | point (p : Nat)
  | door (d : Nat)
  deriving DecidableEq, Repr

inductive IntruderCause where
  | motion | contact | case | doorOpen | forcedDoor | entryExpiry
  deriving DecidableEq, Repr

/-- The security state with the fields that are present in it (R63). -/
inductive Security where
  | off
  | setting (timer : Timer)
  | armed
  | entry (timer : Timer) (source : Source)
  | intruder (cause : IntruderCause) (source : Source) (stamp : Seconds)
  | unsetFault
  deriving DecidableEq, Repr

/-- A loaded zone record: fire part (R40), security part (R63) and the four flags that zone logic holds for other
blocks (R55). -/
structure Zone where
  kind : ZoneKind
  verify : Bool
  ackTime : Nat
  searchTime : Nat
  policy : ArmPolicy
  exitDelay : Nat
  entryDelay : Nat
  fire : Fire := .quiet
  preCount : Nat := 0
  activeCount : Nat := 0
  faultCount : Nat := 0
  security : Security := .off
  openContacts : Nat := 0
  openCases : Nat := 0
  callWaiting : Bool := false
  callEscalated : Bool := false
  noRoute : Bool := false
  avoid : Bool := false
  deriving DecidableEq, Repr

inductive SounderState where
  | quiet | sounding | silenced
  deriving DecidableEq, Repr

/-- A sounder circuit (R57). -/
structure Sounder where
  request : Bool := false
  state : SounderState := .quiet
  deriving DecidableEq, Repr

/-! ### Doors (Chapter 5) -/

inductive DoorKind where
  | egress | strongroom | fireLeaf
  deriving DecidableEq, Repr

inductive Drive where
  | lock | unlock | holdOpen | close
  deriving DecidableEq, Repr

inductive Level where
  | life | rule | station | intrusion | timetable | rest
  deriving DecidableEq, Repr

inductive DoorCondition where
  | secure | free | opened | locking | lockWait | lockFail | forced | held | nodeFault
  deriving DecidableEq, Repr

inductive NodeHealth where
  | ok | silent
  deriving DecidableEq, Repr

/-- The STATION demand, with the station that placed it and its duration timer; no timer for duration 0 (R80, R86). -/
structure StationDemand where
  drive : Drive
  station : Nat
  timer : Option Timer
  deriving DecidableEq, Repr

/-- The demand set: one optional demand for each level (R80). -/
structure Demands where
  life : Option Drive := none
  rule : Option Drive := none
  station : Option StationDemand := none
  intrusion : Option Drive := none
  timetable : Option Drive := none
  deriving DecidableEq, Repr

/-- A loaded door record (R80). The confirm timer and the node watch are 3.0 s, held as 3 seconds of the time base. -/
structure Door where
  kind : DoorKind
  zone : Nat
  nightLock : Bool
  entryRoute : Bool
  heldLimit : Nat
  demands : Demands := {}
  drive : Drive
  level : Level := .rest
  leaf : Option Leaf := none
  lock : Option LockPos := none
  health : NodeHealth := .ok
  condition : Option DoorCondition := none
  confirm : Option Timer := none
  held : Option Timer := none
  shunt : Option Timer := none
  watch : Option Timer := none
  deriving DecidableEq, Repr

/-- The exchanges on the door line (R82): the door of the latest round exchange, the door of the exchange in flight,
and the doors awaiting an early exchange. -/
structure DoorLine where
  round : Option Nat := none
  exchange : Option Nat := none
  early : Vector Bool 32 := Vector.replicate 32 false
  deriving DecidableEq, Repr

/-! ### Regime, rules and relays (Chapter 6) -/

inductive Regime where
  | day | night
  deriving DecidableEq, Repr

/-- The ten zone flags (R55). -/
inductive ZoneFlag where
  | fireAlarm | fireVerify | firePre | fireFault | intruder | armed | callWaiting | callEscalated | noRoute | avoid
  deriving DecidableEq, Repr

/-- The global flags that a rule may read (R110). -/
inductive GlobalFlag where
  | yes | night | mainsFail | autonomous | anyAlarm | alarmHold
  deriving DecidableEq, Repr

inductive Operand where
  | zone (z : Nat) (flag : ZoneFlag)
  | global (flag : GlobalFlag)
  deriving DecidableEq, Repr

/-- The sixteen combine functions (R111), in the order of their codes. -/
inductive Combine where
  | never | aNorB | bNotA | notA | aNotB | notB | aXorB | aNandB
  | aAndB | aXnorB | b | bOrNotA | a | aOrNotB | aOrB | always
  deriving DecidableEq, Repr

inductive Effect where
  | door (d : Nat) (drive : Drive)
  | sounder (c : Nat)
  | relay (r : Nat)
  | avoid (z : Nat)
  deriving DecidableEq, Repr

/-- The outcome of a rule entry, with its delay timer in DELAYING (R107). -/
inductive RuleOutcome where
  | off
  | delaying (timer : Timer)
  | on
  deriving DecidableEq, Repr

/-- A loaded rule entry (R107). -/
structure Rule where
  enabled : Bool
  latch : Bool
  a : Operand
  b : Operand
  fn : Combine
  delay : Nat
  effect : Effect
  outcome : RuleOutcome := .off
  deriving DecidableEq, Repr

/-! ### Calls (Chapter 7) -/

inductive CallKind where
  | help | refuge
  deriving DecidableEq, Repr

inductive Priority where
  | urgent | normal
  deriving DecidableEq, Repr

/-- The state of a call, with its answer start in WAITING and its owner in CLAIMED (R125). -/
inductive CallState where
  | waiting (answerStart : Seconds)
  | claimed (owner : Nat)
  | escalated
  deriving DecidableEq, Repr

/-- A call record (R125). -/
structure Call where
  number : Nat
  point : Nat
  zone : Nat
  kind : CallKind
  arrival : Nat
  priority : Priority
  state : CallState
  repeats : Nat := 0
  deriving DecidableEq, Repr

/-- The call manager (R125 to R129). `calls` holds the queue's calls in the order of their creation; the queue order of
R126, urgent calls first, is computed from it. -/
structure CallBoard where
  calls : List Call := []
  waitingPoints : List Nat := []
  callCounter : Nat := 0
  arrivalCounter : Nat := 0
  deriving DecidableEq, Repr

/-! ### Routes (Chapter 8) -/

inductive Way where
  | both | aToB
  deriving DecidableEq, Repr

/-- A loaded passage (R139). -/
structure Passage where
  a : Nat
  b : Nat
  cost : Nat
  way : Way
  door : Option Nat
  deriving DecidableEq, Repr

/-- What a snapshot holds of a loaded zone (R144). -/
structure ZoneView where
  exit : Bool
  blocked : Bool
  penalty : Nat
  deriving DecidableEq, Repr

/-- The snapshot that a pass works on (R144): the loaded zones, and for each door whether it is usable. -/
structure Snapshot where
  zones : Vector (Option ZoneView) 48
  doorUsable : Vector Bool 32
  deriving DecidableEq, Repr

/-- A zone's next passage with its step cost (R146). -/
structure NextStep where
  passage : Nat
  cost : Nat
  deriving DecidableEq, Repr

/-- A zone's entry in a plan (R147). -/
structure PlanEntry where
  distance : Nat
  next : Option NextStep
  deriving DecidableEq, Repr

/-- The result of a pass: the entries and the sweep count (R147). -/
structure WorkingPlan where
  entries : Vector (Option PlanEntry) 48
  sweeps : Nat
  deriving DecidableEq, Repr

/-- The published plan (R147). Its plan number is the route engine's. -/
structure Plan where
  work : WorkingPlan
  number : Nat
  stamp : Seconds
  deriving DecidableEq, Repr

/-- The state of the route engine (R148). In COMPUTING it holds the pass's snapshot; none stands only within the event
that starts the pass, until the snapshot is taken of the state as that event leaves it (R144). -/
inductive Engine where
  | idle
  | computing (snapshot : Option Snapshot)
  deriving DecidableEq, Repr

/-- The route engine (R147 to R150). The working plan of a pass is a function of its snapshot and the passage table,
and is computed at the completion. -/
structure RouteEngine where
  engine : Engine := .idle
  rerun : Bool := false
  stale : Bool := false
  discards : Nat := 0
  planNumber : Nat := 0
  plan : Option Plan := none
  deriving DecidableEq, Repr

/-! ### Signs (Chapter 9) -/

inductive LegendSource where
  | dark | lit | mainsFail | alarm
  deriving DecidableEq, Repr

/-- The value of one element of a sign (R160). -/
inductive Elem where
  | dark | steady | flashing
  deriving DecidableEq, Repr

/-- The shown state: elements 0 to 3 are the arrows, 4 the cross, 5 the legend (R156). -/
abbrev Shown := Vector Elem 6

/-- A loaded sign record (R156). -/
structure Sign where
  zone : Nat
  group : Nat
  bindings : Vector (Option Nat) 4
  legend : LegendSource
  invert : Bool
  blank : Vector Bool 4 := Vector.replicate 4 false
  shown : Shown
  deriving DecidableEq, Repr

/-- The state of a sign group, with its step counter and step timer in TEST (R158). -/
inductive GroupState where
  | run
  | stopped
  | test (counter : Nat) (timer : Timer)
  deriving DecidableEq, Repr

/-- A sign group (R158). -/
structure Group where
  testLength : Nat := 64
  state : GroupState := .run
  deriving DecidableEq, Repr

/-- The sends on the sign line (R160), in the form of `DoorLine`. -/
structure SignLine where
  round : Option Nat := none
  sending : Option Nat := none
  early : Vector Bool 64 := Vector.replicate 64 false
  deriving DecidableEq, Repr

/-! ### Supervision (Chapter 11) -/

/-- The mode, with the supervision timer in LINKED and the autonomous stamp in AUTONOMOUS (R186). -/
inductive Mode where
  | linked (timer : Timer)
  | autonomous (stamp : Seconds)
  deriving DecidableEq, Repr

inductive Pulse where
  | none | pulseA | pulseB
  deriving DecidableEq, Repr

/-- The restart cause set (R192). -/
structure Causes where
  powerOn : Bool := false
  resetLine : Bool := false
  restartRequest : Bool := false
  deriving DecidableEq, Repr

/-- The supervision unit (R186, R192). -/
structure Supervision where
  mode : Mode := .linked ⟨0, 30⟩
  interval : Nat := 30
  locked : Bool := false
  lastPulse : Pulse := .none
  causes : Causes := {}
  deriving DecidableEq, Repr

/-! ### The link controller (Chapter 10) -/

inductive OpState where
  | commissioning | running
  deriving DecidableEq, Repr

/-- The status codes (R184). -/
inductive Status where
  | ok | clamped | busy | badState | badIndex | badValue | badAction | badStation
  | notOwner | limit | heldElsewhere | locked | stillActive | autonomous | unknownKind | checkFailed
  deriving DecidableEq, Repr

/-- The classes of reports (R174). -/
inductive ReportClass where
  | fire | call | security | door | route | system
  deriving DecidableEq, Repr

/-- What a report tells of a fire state: the phase in VERIFY, the cause in ALARM (R54). -/
inductive FireView where
  | quiet | pre | verifyAckWait | verifySearch
  | alarm (cause : AlarmCause)
  deriving DecidableEq, Repr

/-- What a report tells of a security state: cause and source for INTRUDER (R77). -/
inductive SecurityView where
  | off | setting | armed | entry
  | intruder (cause : IntruderCause) (source : Source)
  | unsetFault
  deriving DecidableEq, Repr

/-- The state of a call in a report or reply; CLOSED is told at a close (R135). -/
inductive CallView where
  | waiting | escalated | closed
  | claimed (owner : Nat)
  deriving DecidableEq, Repr

/-- What a report tells of a group state: the test length for TEST (R164). -/
inductive GroupView where
  | run | stopped
  | test (length : Nat)
  deriving DecidableEq, Repr

/-- What a report tells of a rule outcome: the remaining delay for DELAYING (R117). -/
inductive OutcomeView where
  | off | on
  | delaying (left : Nat)
  deriving DecidableEq, Repr

/-- The state of a report: what its kind carries (the table 'Reports at a glance' of section 10.3). -/
inductive ReportState where
  | pointCondition (c : Condition)
  | pointHealth (h : Health)
  | zoneFire (v : FireView)
  | zoneFault (on : Bool)
  | anyAlarm (on : Bool)
  | alarmHold (on : Bool)
  | sounder (s : SounderState)
  | zoneSecurity (v : SecurityView)
  | securityMasked (source : Source)
  | doorDrive (drive : Drive) (level : Level)
  | doorCondition (c : DoorCondition)
  | doorNode (h : NodeHealth)
  | regime (r : Regime)
  | mains (failed : Bool)
  | ruleOutcome (v : OutcomeView)
  | relay (energised : Bool)
  | zoneAvoid (on : Bool)
  | callState (number arrival : Nat) (kind : CallKind) (zone : Nat) (state : CallView) (priority : Priority) (repeats : Nat)
  | callPending (position : Nat)
  | zoneCall (waiting escalated : Bool)
  | callsCleared (calls points : Nat)
  | routePlan (number unreachable : Nat)
  | zoneNoRoute (on : Bool)
  | signGroup (v : GroupView)
  deriving DecidableEq, Repr

/-- A report (R174). -/
structure Report where
  cls : ReportClass
  object : Nat
  state : ReportState
  stamp : Seconds
  gap : Bool := false
  deriving DecidableEq, Repr

/-- The masked classes (R176); FIRE and CALL are never masked. -/
structure Masks where
  security : Bool := false
  door : Bool := false
  route : Bool := false
  system : Bool := false
  deriving DecidableEq, Repr

/-- The ten flags of a zone as QUERY ZONE gives them (R60). -/
structure ZoneFlags where
  fireAlarm : Bool
  fireVerify : Bool
  firePre : Bool
  fireFault : Bool
  intruder : Bool
  armed : Bool
  callWaiting : Bool
  callEscalated : Bool
  noRoute : Bool
  avoid : Bool
  deriving DecidableEq, Repr

/-- What the reply of QUERY POINT adds for a SMOKE point and for a HEAT point (R18). -/
inductive PointPart where
  | plain
  | smoke (baseline : Nat) (learnt : Bool) (readings confirm : Nat)
  | heat (fill : Nat) (ring : List Nat) (confirm : Nat)
  deriving DecidableEq, Repr

/-- The reply of QUERY POINT (R18). -/
structure PointRow where
  kind : PointKind
  zone : Nat
  cls : Nat
  enabled : Bool
  entryRoute : Bool
  condition : Condition
  health : Health
  held : Nat
  misses : Nat
  part : PointPart
  deriving DecidableEq, Repr

/-- The reply of QUERY DOOR beside the record (R101): what is left of the station demand and of each running timer, and
the passage. -/
structure DoorTimes where
  station : Option Nat
  confirmTenths : Option Nat
  held : Option Nat
  shunt : Option Nat
  watchTenths : Option Nat
  passage : Option Nat
  deriving DecidableEq, Repr

/-- One call in the reply of QUERY CALLS: the record, and for a WAITING call the elapsed time and the limit (R137). -/
structure CallRow where
  call : Call
  elapsed : Option Nat
  limit : Option Nat
  deriving DecidableEq, Repr

/-- The device-wide part of the reply of QUERY PLAN (R153). -/
structure PlanHead where
  computing : Bool
  rerun : Bool
  stale : Bool
  discards : Nat
  number : Nat
  published : Option (Seconds × Nat)
  deriving DecidableEq, Repr

/-- The zone's part of the reply of QUERY PLAN (R153). -/
structure PlanZone where
  blocked : Bool
  penalty : Nat
  entry : Option PlanEntry
  deriving DecidableEq, Repr

/-- The group's part of the reply of QUERY SIGN (R168). -/
structure GroupRow where
  group : Group
  stepLeft : Option Nat
  deriving DecidableEq, Repr

/-- The plan's part of the reply of QUERY SIGN (R168). -/
structure SignPlan where
  number : Nat
  next : Option Nat
  distance : Option Nat
  deriving DecidableEq, Repr

/-- The reply of QUERY RULE (R121). -/
structure RuleRow where
  rule : Option Rule
  left : Option Nat
  valueA : Option Bool
  valueB : Option Bool
  truth : Option Bool
  daySlot : Option Nat
  nightSlot : Option Nat
  live : Bool
  dn : Nat
  nn : Nat
  deriving DecidableEq, Repr

/-- The reply of QUERY STATUS (R183, R186). -/
structure StatusRow where
  op : OpState
  mode : Mode
  supervisionLeft : Option Nat
  interval : Nat
  locked : Bool
  lastPulse : Pulse
  regime : Regime
  planNumber : Nat
  planPublished : Bool
  reports : Nat
  gapMark : Bool
  masks : Masks
  anyAlarm : Bool
  holdLeft : Option Nat
  mainsFail : Bool
  sounders : Vector SounderState 16
  relays : Vector Bool 16
  clock : Seconds
  deriving DecidableEq, Repr

/-- What EDIT ended, in the order of R182's table. -/
structure EditCounts where
  preZones : Nat
  guardedZones : Nat
  rules : Nat
  relays : Nat
  sounders : Nat
  calls : Nat
  groups : Nat
  planPublished : Bool
  deriving DecidableEq, Repr

/-- What a reply carries after its status (R173 and each request's rule). -/
inductive Content where
  | none
  | count (n : Nat)
  | refreshed (b : Bool)
  | resumed (stamp : Seconds) (spent : Nat)
  | checkFailed (table index : Nat)
  | owner (station : Nat)
  | fire (v : FireView) (left : Option Nat)
  | security (v : SecurityView)
  | regime (r : Regime)
  | group (v : GroupView)
  | testLength (n : Nat)
  | call (number point : Nat) (state : CallView) (priority : Option Priority) (promoted : Option Nat)
  | edit (c : EditCounts)
  | point (p : PointRow)
  | zone (z : Option Zone) (flags : ZoneFlags) (fireLeft securityLeft : Option Nat)
  | door (d : Option Door) (times : Option DoorTimes)
  | callQueue (rows : List CallRow) (callCounter arrivalCounter : Nat)
  | callPoints (length : Nat) (points : List Nat)
  | plan (head : PlanHead) (zone : Option PlanZone)
  | sign (s : Option Sign) (group : GroupRow) (plan : Option SignPlan)
  | rule (r : RuleRow)
  | status (r : StatusRow)
  | causes (c : Causes)
  deriving DecidableEq, Repr

/-- A reply (R173): `kind` is the kind byte of the reply frame. -/
structure Reply where
  kind : Byte
  header : Header
  status : Status
  content : Content := .none
  deriving DecidableEq, Repr

/-- The frame on the line from the FG640 to the host (R173). -/
inductive TxFrame where
  | reply (r : Reply)
  | report (r : Report)
  deriving DecidableEq, Repr

/-- The link controller: operating state (R179), COMMIT in flight with its header (R180), the time between a RESTART and
its warm restart (R191), prefix slots 0 to 7 and, at 8, that of station 15 (R178), reply list (R173), report queue, gap
mark and masks (R174 to R176), the frame being sent, and the bytes of the frame being received, none while hunting
(R171). -/
structure Link where
  op : OpState := .commissioning
  commit : Option Header := none
  restarting : Bool := false
  slots : Vector (Option Nat) 9 := Vector.replicate 9 none
  replies : List Reply := []
  reports : List Report := []
  gapMark : Bool := false
  masks : Masks := {}
  tx : Option TxFrame := none
  rx : List Byte := []
  deriving DecidableEq, Repr

/-! ### The device -/

/-- The supply, the reset input and the mains-status input (R112, R190). -/
structure Inputs where
  supplyOk : Bool := true
  resetHeld : Bool := false
  mainsFailed : Bool := false
  deriving DecidableEq, Repr

/-- The whole FG640. The defaults are the values of a cold restart. -/
structure Device where
  inputs : Inputs := {}
  clock : Seconds := 0
  sup : Supervision := {}
  link : Link := {}
  points : Vector Point 256 := Vector.replicate 256 {}
  classes : Vector (Option ClassRec) 8 := Vector.replicate 8 none
  loops : Vector Loop 4 := Vector.replicate 4 {}
  zones : Vector (Option Zone) 48 := Vector.replicate 48 none
  alarmHold : Option Timer := none
  sounders : Vector Sounder 16 := Vector.replicate 16 {}
  doors : Vector (Option Door) 32 := Vector.replicate 32 none
  doorLine : DoorLine := {}
  regime : Regime := .night
  rules : Vector (Option Rule) 128 := Vector.replicate 128 none
  daySlots : Nat := 0
  nightSlots : Nat := 0
  relays : Vector Bool 16 := Vector.replicate 16 false
  mainsFail : Bool := false
  board : CallBoard := {}
  passages : Vector (Option Passage) 96 := Vector.replicate 96 none
  route : RouteEngine := {}
  signs : Vector (Option Sign) 64 := Vector.replicate 64 none
  groups : Vector Group 8 := Vector.replicate 8 {}
  signLine : SignLine := {}
  /-- The model's own field, not the manual's: how many free values have been read (log 3). -/
  freeReads : Nat := 0
  deriving DecidableEq, Repr

/-- The state: the device and the commands that wait, first in, first out. -/
structure State where
  dev : Device
  pending : List Instr
  deriving DecidableEq, Repr

/-- The manual describes no stop of the FG640 itself, so no command raises a fault; the type has no constructor. -/
inductive Fault where
  deriving DecidableEq, Repr

/-- Why a command has no outcome. -/
inductive Refusal where
  /-- Raised by the dispatch alone, for a command that has no meaning yet; safe, since nothing is claimed of it. No arm
  raises it now. -/
  | notModelled (mnemonic : String)
  deriving DecidableEq, Repr

/-- The CALLS_CLEARED report of the first power-on, which finds no call (R138). -/
def clearedAtPowerOn : Report := { cls := .call, object := 0, state := .callsCleared 0 0, stamp := 0 }

/-- The machine right after the cold restart of its first power-on (R190): every table empty, COMMISSIONING, LINKED,
NIGHT, cause set POWER_ON, mains present (log 8), and the CALLS_CLEARED report of R138 already on the free line (log 9).
-/
def State.reset : State where
  dev := {
    sup := { causes := { powerOn := true } }
    link := { tx := some (.report clearedAtPowerOn) } }
  pending := []

end Sys2Proof.Machine
end

