-- ==== Sys2Proof/Config.lean ====
section
/-! DEFINITION. The free values: constants without a body, for what the manual leaves open or says in two ways.
Nothing can be proved of their values, so a claim about the model holds whatever they are. -/

namespace Sys2Proof

/-- The part of a tenths-of-a-second timer that the seconds counter does not show (R80, R101, R185); read through a
counter of `Device`, bounded by `tenthsLeft`. Log 3. -/
opaque Config.freeTenths : Nat → Nat

/-- Whether the drive that a newly loaded door takes counts as a change of drive for the early exchanges (R82). Log 5. -/
opaque Config.newDoorJoinsEarly : Bool

/-- Whether the shown state that a newly loaded sign takes counts as a change for the early sends (R160). Log 5. -/
opaque Config.newSignJoinsEarly : Bool

/-- The index byte of a CHECK_FAILED reply whose table code is 0, which names no table (R181, R184). Log 6. -/
opaque Config.noTableIndex : Byte

/-- The class of the POINT_HEALTH report of a LOAD_POINT that makes a faulty point ABSENT: R12 gives a class for the
other eight kinds only. Code of R184's report body, taken modulo 6. Log 7. -/
opaque Config.absentHealthClass : Nat

/-- The bytes of what a report's kind carries, of which R184 gives the length alone, 0 to 32. Log 25. -/
opaque Config.stateBytes : Machine.ReportState → List Byte

/-- The bytes of what a reply carries after its status, for the contents that R184 does not lay out. Log 25. -/
opaque Config.contentBytes : Machine.Content → List Byte

end Sys2Proof
end

