-- ==== Sys2Proof/Machine/Ops.lean ====
section
/-! DEFINITION. The operations every block uses: reading and writing a table, timers, the report queue, replies and the
transmitter. -/

namespace Sys2Proof.Machine

/-! ### Tables -/

/-- Entry `i` of a table of optional records; none outside the table. -/
def Tab.get? {α : Type} {n : Nat} (v : Vector (Option α) n) (i : Nat) : Option α := v[i]?.join

/-- Entry `i` of a table whose entries always exist; `x` outside the table. -/
def Tab.getD {α : Type} {n : Nat} (v : Vector α n) (i : Nat) (x : α) : α := v[i]?.getD x

/-- The table with entry `i` replaced; the same table when `i` lies outside it. -/
def Tab.put {α : Type} {n : Nat} (v : Vector α n) (i : Nat) (x : α) : Vector α n := v.setIfInBounds i x

/-- The table of optional records with a loaded entry `i` changed by `f`. -/
def Tab.upd {α : Type} {n : Nat} (v : Vector (Option α) n) (i : Nat) (f : α → α) : Vector (Option α) n :=
  Tab.put v i ((Tab.get? v i).map f)

/-- The table whose entry `i` is `f i`. -/
def Tab.build {α : Type} (n : Nat) (f : Nat → α) : Vector α n := ⟨⟨(List.range n).map f⟩, by simp⟩

/-- The table with `f` applied to every entry. -/
def Tab.map {α β : Type} {n : Nat} (f : α → β) (v : Vector α n) : Vector β n := ⟨⟨v.toList.map f⟩, by simp⟩

/-- The lowest index below `n` from `lo` upward that satisfies `p`. -/
def firstFrom (n lo : Nat) (p : Nat → Bool) : Option Nat := (List.range n).find? fun i => lo ≤ i && p i

/-- The next index of a round over a table of `n`: the lowest above `pos` that satisfies `p`, else the lowest of all (the
wrap of R5, R82 and R160). -/
def nextInRound (n : Nat) (pos : Option Nat) (p : Nat → Bool) : Option Nat :=
  match pos with
  | none => firstFrom n 0 p
  | some k => (firstFrom n (k + 1) p).or (firstFrom n 0 p)

/-- Apply `f` for each index 0, …, n − 1 in ascending order. -/
def forEach {σ : Type} (n : Nat) (f : Nat → σ → σ) (s : σ) : σ := (List.range n).foldl (fun s i => f i s) s

/-- Apply `f` for each listed index in turn. -/
def forList {σ : Type} (l : List Nat) (f : Nat → σ → σ) (s : σ) : σ := l.foldl (fun s i => f i s) s

/-- `x` replaced by the nearest limit of `lo`..`hi` (the term 'clamped' of 00_scope.md). -/
def clamp (lo hi x : Nat) : Nat := max lo (min hi x)

def Device.point (d : Device) (p : Nat) : Point := Tab.getD d.points p {}
def Device.putPoint (d : Device) (p : Nat) (r : Point) : Device := { d with points := Tab.put d.points p r }
def Device.loop (d : Device) (l : Nat) : Loop := Tab.getD d.loops l {}
def Device.putLoop (d : Device) (l : Nat) (r : Loop) : Device := { d with loops := Tab.put d.loops l r }
def Device.class? (d : Device) (c : Nat) : Option ClassRec := Tab.get? d.classes c
def Device.zone? (d : Device) (z : Nat) : Option Zone := Tab.get? d.zones z
def Device.putZone (d : Device) (z : Nat) (r : Zone) : Device := { d with zones := Tab.put d.zones z (some r) }
def Device.updZone (d : Device) (z : Nat) (f : Zone → Zone) : Device := { d with zones := Tab.upd d.zones z f }
def Device.sounder (d : Device) (c : Nat) : Sounder := Tab.getD d.sounders c {}
def Device.putSounder (d : Device) (c : Nat) (r : Sounder) : Device := { d with sounders := Tab.put d.sounders c r }
def Device.door? (d : Device) (n : Nat) : Option Door := Tab.get? d.doors n
def Device.putDoor (d : Device) (n : Nat) (r : Door) : Device := { d with doors := Tab.put d.doors n (some r) }
def Device.updDoor (d : Device) (n : Nat) (f : Door → Door) : Device := { d with doors := Tab.upd d.doors n f }
def Device.rule? (d : Device) (e : Nat) : Option Rule := Tab.get? d.rules e
def Device.putRule (d : Device) (e : Nat) (r : Rule) : Device := { d with rules := Tab.put d.rules e (some r) }
def Device.passage? (d : Device) (p : Nat) : Option Passage := Tab.get? d.passages p
def Device.sign? (d : Device) (n : Nat) : Option Sign := Tab.get? d.signs n
def Device.putSign (d : Device) (n : Nat) (r : Sign) : Device := { d with signs := Tab.put d.signs n (some r) }
def Device.updSign (d : Device) (n : Nat) (f : Sign → Sign) : Device := { d with signs := Tab.upd d.signs n f }
def Device.group (d : Device) (g : Nat) : Group := Tab.getD d.groups g {}
def Device.putGroup (d : Device) (g : Nat) (r : Group) : Device := { d with groups := Tab.put d.groups g r }

/-- Apply `f` to the state of the link controller. -/
def Device.updLink (d : Device) (f : Link → Link) : Device := { d with link := f d.link }

/-! ### Timers (00_scope.md, R185) -/

/-- Seconds of the time base from `start` to `now`, through the counter's wrap. -/
def secondsSince (now start : Seconds) : Nat := (now - start).toNat

/-- What is left of a timer, in seconds. -/
def Timer.left (t : Timer) (now : Seconds) : Nat := t.length - secondsSince now t.start

/-- Whether a timer's time has elapsed, so that its expiry may be taken. -/
def Timer.due (t : Timer) (now : Seconds) : Bool := t.length ≤ secondsSince now t.start

/-- A timer of `n` seconds started now. -/
def Device.timer (d : Device) (n : Nat) : Timer := ⟨d.clock, n⟩

/-- Whether a timer is running and its time has elapsed. -/
def Device.due (d : Device) (t : Option Timer) : Bool := t.any fun t => t.due d.clock

/-- What is left of a timer that runs, in seconds. -/
def Device.left (d : Device) (t : Option Timer) : Option Nat := t.map fun t => t.left d.clock

/-- What is left of a 3.0 s timer, in tenths: after `e` ticks of the seconds counter more than 20 − 10 e and less than
40 − 10 e, within 0..30; which of these the counter does not show, so a free value decides (log 3). -/
def tenthsLeft (e free : Nat) : Nat :=
  let lo := 21 - 10 * e
  let hi := min 30 (39 - 10 * e)
  lo + free % (hi - lo + 1)

/-- Whether the FG640 operates: the supply is at its working level and the reset input is released (R190). -/
def Device.up (d : Device) : Bool := d.inputs.supplyOk && !d.inputs.resetHeld

/-- Whether the operating state is RUNNING (R179). -/
def Device.isRunning (d : Device) : Bool := d.link.op == .running

/-- Whether the mode is AUTONOMOUS (R186). -/
def Device.isAutonomous (d : Device) : Bool :=
  match d.sup.mode with
  | .linked _ => false
  | .autonomous _ => true

/-! ### The report queue (R174 to R177) -/

/-- The code of a report's kind (the table 'Reports at a glance' of section 10.3). -/
def ReportState.code : ReportState → Nat
  | .pointCondition _ => 1
  | .pointHealth _ => 2
  | .zoneFire _ => 3
  | .zoneFault _ => 4
  | .anyAlarm _ => 5
  | .alarmHold _ => 6
  | .sounder _ => 7
  | .zoneSecurity _ => 8
  | .securityMasked _ => 9
  | .doorDrive _ _ => 10
  | .doorCondition _ => 11
  | .doorNode _ => 12
  | .regime _ => 13
  | .mains _ => 14
  | .ruleOutcome _ => 15
  | .relay _ => 16
  | .zoneAvoid _ => 17
  | .callState _ _ _ _ _ _ _ => 18
  | .callPending _ => 19
  | .zoneCall _ _ => 20
  | .callsCleared _ _ => 21
  | .routePlan _ _ => 22
  | .zoneNoRoute _ => 23
  | .signGroup _ => 24

/-- The code of a report class (the report body of R184). -/
def ReportClass.code : ReportClass → Nat
  | .fire => 0
  | .call => 1
  | .security => 2
  | .door => 3
  | .route => 4
  | .system => 5

/-- The report class of a code. -/
def ReportClass.ofCode : Nat → ReportClass
  | 0 => .fire
  | 1 => .call
  | 2 => .security
  | 3 => .door
  | 4 => .route
  | _ => .system

/-- Whether a class is masked (R176). -/
def Masks.has (m : Masks) : ReportClass → Bool
  | .fire => false
  | .call => false
  | .security => m.security
  | .door => m.door
  | .route => m.route
  | .system => m.system

/-- Whether two reports are of the same kind and object. -/
def Report.same (r q : Report) : Bool := r.state.code == q.state.code && r.object == q.object

/-- The report queue holds at most this many reports (R174). -/
def reportCapacity : Nat := 32

/-- A full queue that meets a report of a new kind and object (R175). -/
def overflow (q : List Report) (r : Report) : List Report :=
  if q.any fun x => x.cls != .fire then q.eraseP (fun x => x.cls != .fire) ++ [r]
  else if r.cls = .fire then q.tail ++ [r]
  else q

/-- Queue a report: an update in place, an append, or the overflow with the gap mark (R174, R175). -/
def Link.queue (l : Link) (r : Report) : Link :=
  if l.masks.has r.cls then l
  else if l.reports.any r.same then { l with reports := l.reports.map fun x => if r.same x then r else x }
  else if l.reports.length < reportCapacity then { l with reports := l.reports ++ [r] }
  else { l with reports := overflow l.reports r, gapMark := true }

/-- Queue a report stamped with the time base (R174). -/
def Device.report (d : Device) (cls : ReportClass) (object : Nat) (state : ReportState) : Device :=
  d.updLink fun l => l.queue { cls := cls, object := object, state := state, stamp := d.clock }

/-! ### Replies and the transmitter (R173) -/

/-- The kind byte of the reply to a request of kind `k` (R173). -/
def replyKind (k : Byte) : Byte := k ||| 0x80

/-- Form a reply: it joins the reply list (R173). -/
def Device.reply (d : Device) (kind : Byte) (h : Header) (status : Status) (content : Content := .none) : Device :=
  d.updLink fun l => { l with replies := l.replies ++ [{ kind := replyKind kind, header := h, status := status, content := content }] }

/-- A free line takes the oldest waiting reply, else the head report, whose GAP flag takes the gap mark (R173, R175). A reply
too leaves its list as its sending begins, and no longer counts among the four that wait (log 45). -/
def Link.transmit (l : Link) : Link :=
  match l.tx, l.replies, l.reports with
  | some _, _, _ => l
  | none, r :: rs, _ => { l with tx := some (.reply r), replies := rs }
  | none, [], r :: rs => { l with tx := some (.report { r with gap := l.gapMark }), reports := rs, gapMark := false }
  | none, [], [] => l

/-- The end of every event: a free line begins the next frame (R173). -/
def Device.transmit (d : Device) : Device := d.updLink Link.transmit

end Sys2Proof.Machine
end

