-- ==== Sys2Proof/Machine/Flags.lean ====
section
/-! DEFINITION. What the blocks read of each other: zone flags (R55), global flags (R110), the value of a rule operand
and the combine functions (R111), and the views that reports and replies give of a state. -/

namespace Sys2Proof.Machine

/-! ### Fire and security states -/

/-- The fire state is ALARM. -/
def Fire.isAlarm : Fire → Bool
  | .alarm _ _ _ _ _ => true
  | _ => false

/-- The fire state is VERIFY. -/
def Fire.isVerify : Fire → Bool
  | .verify _ _ _ => true
  | _ => false

/-- The fire state is PRE. -/
def Fire.isPre : Fire → Bool
  | .pre => true
  | _ => false

/-- The fire state is VERIFY or ALARM: the zone is masked (R75), its fire leaves close (R84), tests end (R167). -/
def Fire.hot (f : Fire) : Bool := f.isVerify || f.isAlarm

/-- What a ZONE_FIRE report tells (R54). -/
def Fire.view : Fire → FireView
  | .quiet => .quiet
  | .pre => .pre
  | .verify .ackWait _ _ => .verifyAckWait
  | .verify (.search _) _ _ => .verifySearch
  | .alarm c _ _ _ _ => .alarm c

/-- Whether two fire states are the same state of QUIET, PRE, VERIFY and ALARM; a change of phase is none (R148). -/
def Fire.sameState (f g : Fire) : Bool :=
  f.isAlarm == g.isAlarm && f.isVerify == g.isVerify && f.isPre == g.isPre

/-- The fire timer that runs in VERIFY. -/
def Fire.timer? : Fire → Option Timer
  | .verify _ t _ => some t
  | _ => none

def Security.view : Security → SecurityView
  | .off => .off
  | .setting _ => .setting
  | .armed => .armed
  | .entry _ _ => .entry
  | .intruder c s _ => .intruder c s
  | .unsetFault => .unsetFault

/-- The security state is INTRUDER. -/
def Security.isIntruder : Security → Bool
  | .intruder _ _ _ => true
  | _ => false

/-- The security state is SETTING, SET or ENTRY: the flag ARMED (R55). -/
def Security.isArmed : Security → Bool
  | .setting _ => true
  | .armed => true
  | .entry _ _ => true
  | _ => false

/-- Whether two security states are the same of the six states. -/
def Security.sameState : Security → Security → Bool
  | .off, .off => true
  | .setting _, .setting _ => true
  | .armed, .armed => true
  | .entry _ _, .entry _ _ => true
  | .intruder _ _ _, .intruder _ _ _ => true
  | .unsetFault, .unsetFault => true
  | _, _ => false

/-- The security timer that runs in SETTING or ENTRY. -/
def Security.timer? : Security → Option Timer
  | .setting t => some t
  | .entry t _ => some t
  | _ => none

/-! ### Zone flags (R55) -/

def Zone.flag (z : Zone) : ZoneFlag → Bool
  | .fireAlarm => z.fire.isAlarm
  | .fireVerify => z.fire.isVerify
  | .firePre => z.fire.isPre
  | .fireFault => 0 < z.faultCount
  | .intruder => z.security.isIntruder
  | .armed => z.security.isArmed
  | .callWaiting => z.callWaiting
  | .callEscalated => z.callEscalated
  | .noRoute => z.noRoute
  | .avoid => z.avoid

/-- A flag of zone `z`; false for an unloaded zone (R42). -/
def Device.zoneFlag (d : Device) (z : Nat) (f : ZoneFlag) : Bool := (d.zone? z).any fun r => r.flag f

/-- The ten flags of a zone. -/
def Device.zoneFlags (d : Device) (z : Nat) : ZoneFlags where
  fireAlarm := d.zoneFlag z .fireAlarm
  fireVerify := d.zoneFlag z .fireVerify
  firePre := d.zoneFlag z .firePre
  fireFault := d.zoneFlag z .fireFault
  intruder := d.zoneFlag z .intruder
  armed := d.zoneFlag z .armed
  callWaiting := d.zoneFlag z .callWaiting
  callEscalated := d.zoneFlag z .callEscalated
  noRoute := d.zoneFlag z .noRoute
  avoid := d.zoneFlag z .avoid

/-- The fire state of a zone; QUIET for an unloaded zone (R42). -/
def Device.fire (d : Device) (z : Nat) : Fire := ((d.zone? z).map (·.fire)).getD .quiet

/-- Whether some loaded zone satisfies `p`. -/
def Device.anyZone (d : Device) (p : Zone → Bool) : Bool := (List.range 48).any fun z => (d.zone? z).any p

/-- The global flag ANY_ALARM (R56). -/
def Device.anyAlarm (d : Device) : Bool := d.anyZone fun z => z.fire.isAlarm

/-- Whether some loaded zone is in VERIFY or ALARM. -/
def Device.anyHot (d : Device) : Bool := d.anyZone fun z => z.fire.hot

/-- The global flag ALARM_HOLD (R56). -/
def Device.holding (d : Device) : Bool := d.alarmHold.isSome

/-! ### Rule operands (R110, R111) -/

def Device.globalFlag (d : Device) : GlobalFlag → Bool
  | .yes => true
  | .night => d.regime == .night
  | .mainsFail => d.mainsFail
  | .autonomous => d.isAutonomous
  | .anyAlarm => d.anyAlarm
  | .alarmHold => d.holding

def Device.operand (d : Device) : Operand → Bool
  | .zone z f => d.zoneFlag z f
  | .global f => d.globalFlag f

/-- The truth table of a combine function (R111). -/
def Combine.eval (f : Combine) (a b : Bool) : Bool :=
  match f with
  | .never => false
  | .aNorB => !a && !b
  | .bNotA => b && !a
  | .notA => !a
  | .aNotB => a && !b
  | .notB => !b
  | .aXorB => a != b
  | .aNandB => !(a && b)
  | .aAndB => a && b
  | .aXnorB => a == b
  | .b => b
  | .bOrNotA => b || !a
  | .a => a
  | .aOrNotB => a || !b
  | .aOrB => a || b
  | .always => true

/-- The present truth of a rule entry (R107). -/
def Device.truth (d : Device) (r : Rule) : Bool := r.fn.eval (d.operand r.a) (d.operand r.b)

end Sys2Proof.Machine
end

