-- ==== Sys2Proof/Machine/Calls.lean ====
section
/-! DEFINITION. The call manager (Chapter 7): presses, priority, escalation, the zone flags and the promotion of the
pending list. -/

namespace Sys2Proof.Machine

/-- The call queue holds at most this many calls (R126). -/
def callCapacity : Nat := 16

/-- A station owns at most this many claimed calls (R132). -/
def claimLimit : Nat := 2

/-- The queue order of R126: URGENT before NORMAL, each in the order of creation. -/
def CallBoard.queueOrder (b : CallBoard) : List Call :=
  b.calls.filter (fun c => c.priority == .urgent) ++ b.calls.filter (fun c => c.priority == .normal)

/-- The call with this number. -/
def CallBoard.find? (b : CallBoard) (n : Nat) : Option Call := b.calls.find? fun c => c.number == n

/-- The board with call `c.number` replaced by `c`. -/
def CallBoard.replace (b : CallBoard) (c : Call) : CallBoard :=
  { b with calls := b.calls.map fun x => if x.number = c.number then c else x }

/-- The number of calls that a station owns (R125). -/
def CallBoard.owned (b : CallBoard) (station : Nat) : Nat := b.calls.countP fun c => c.state == .claimed station

/-- The limit of a call in seconds (R130). -/
def Priority.limit : Priority → Nat
  | .urgent => 15
  | .normal => 60

/-- The priority of a call by the flags it depends on (R130). -/
def Device.priorityOf (d : Device) (kind : CallKind) (zone : Nat) : Priority :=
  match kind with
  | .refuge => if d.anyAlarm then .urgent else .normal
  | .help => if (d.fire zone).hot || d.zoneFlag zone .noRoute then .urgent else .normal

def CallState.view : CallState → CallView
  | .waiting _ => .waiting
  | .claimed s => .claimed s
  | .escalated => .escalated

/-- The CALL_STATE report of a call, kept by point (R135). -/
def Device.reportCall (d : Device) (c : Call) (v : CallView) : Device :=
  d.report .call c.point (.callState c.number c.arrival c.kind c.zone v c.priority c.repeats)

/-- Put a changed call on the board and report it (R135). -/
def Device.changeCall (d : Device) (c : Call) : Device :=
  ({ d with board := d.board.replace c }).reportCall c c.state.view

/-- The number that a new call takes: the counter, passing over numbers that queued calls hold (R127). -/
def freeNumber (used : List Nat) : Nat → Nat → Nat
  | 0, n => n
  | fuel + 1, n => if n ∈ used then freeNumber used fuel ((n + 1) % 256) else n

/-- The kind of call that a point raises (R125). -/
def callKindOf : PointKind → CallKind
  | .refuge => .refuge
  | _ => .help

/-- A new WAITING call for point `p`, with its report (R127, R128). -/
def Device.createCall (d : Device) (p : Nat) : Device :=
  let r := d.point p
  let b := d.board
  let n := freeNumber (b.calls.map (·.number)) 256 b.callCounter
  let c : Call := {
    number := n, point := p, zone := r.zone, kind := callKindOf r.kind, arrival := b.arrivalCounter
    priority := d.priorityOf (callKindOf r.kind) r.zone, state := .waiting d.clock }
  ({ d with board := { b with
      calls := b.calls ++ [c], callCounter := (n + 1) % 256, arrivalCounter := (b.arrivalCounter + 1) % 65536 } }
    ).reportCall c .waiting

/-- A press of point `p` (R128). -/
def Device.press (d : Device) (p : Nat) : Device :=
  match d.board.calls.find? fun c => c.point == p with
  | some c => if c.repeats < 15 then d.changeCall { c with repeats := c.repeats + 1 } else d
  | none =>
    if p ∈ d.board.waitingPoints then d
    else if d.board.calls.length < callCapacity then d.createCall p
    else
      let k := d.board.waitingPoints.length
      ({ d with board := { d.board with waitingPoints := d.board.waitingPoints ++ [p] } }).report .call p (.callPending k)

/-- A call with its priority judged again; a WAITING call that becomes URGENT after 15 s escalates (R130, R131). -/
def Device.rejudge (d : Device) (c : Call) : Call :=
  let pr := d.priorityOf c.kind c.zone
  if pr = c.priority then c
  else
    let c := { c with priority := pr }
    match c.state with
    | .waiting t => if pr = .urgent ∧ pr.limit ≤ secondsSince d.clock t then { c with state := .escalated } else c
    | _ => c

/-- Judge every priority again, reporting the changed calls in ascending point number (R130). -/
def Device.settleCalls (d : Device) : Device :=
  let old := d.board.calls
  let changed := (old.filter fun c => d.rejudge c != c).map d.rejudge
  let d := { d with board := { d.board with calls := old.map d.rejudge } }
  forEach 256 (fun p d => match changed.find? fun c => c.point == p with
    | some c => d.reportCall c c.state.view
    | none => d) d

/-- The zone has a WAITING or ESCALATED call (R135). -/
def CallBoard.waitingIn (b : CallBoard) (z : Nat) : Bool :=
  b.calls.any fun c => c.zone == z && (match c.state with | .claimed _ => false | _ => true)

/-- The zone has an ESCALATED call (R135). -/
def CallBoard.escalatedIn (b : CallBoard) (z : Nat) : Bool :=
  b.calls.any fun c => c.zone == z && c.state == .escalated

/-- The two call flags of zone `z` follow the calls, with the ZONE_CALL report of a change (R135). -/
def Device.settleCallFlags (z : Nat) (d : Device) : Device :=
  match d.zone? z with
  | none => d
  | some r =>
    let w := d.board.waitingIn z
    let e := d.board.escalatedIn z
    if r.callWaiting = w ∧ r.callEscalated = e then d
    else (d.putZone z { r with callWaiting := w, callEscalated := e }).report .call z (.zoneCall w e)

/-- The head of the pending list becomes a new call (R133). -/
def Device.promoteWaiting (d : Device) : Device :=
  match d.board.waitingPoints with
  | [] => d
  | p :: rest => ({ d with board := { d.board with waitingPoints := rest } }).createCall p

/-- At the entry into AUTONOMOUS every CLAIMED call becomes WAITING, in ascending point number (R136). -/
def Device.releaseAllCalls (d : Device) : Device :=
  forEach 256 (fun p d => match d.board.calls.find? fun c => c.point == p with
    | some c => (match c.state with
      | .claimed _ => d.changeCall { c with state := .waiting d.clock }
      | _ => d)
    | none => d) d

/-- One row of QUERY CALLS (R137). -/
def Device.callRow (d : Device) (c : Call) : CallRow :=
  match c.state with
  | .waiting t => { call := c, elapsed := some (secondsSince d.clock t), limit := some c.priority.limit }
  | _ => { call := c, elapsed := none, limit := none }

end Sys2Proof.Machine
end

