-- ==== Sys2Proof/Machine/Detection.lean ====
section
/-! DEFINITION. The detection engine (Chapter 2): levels, the confirm count and clear mark, baseline and drift, the heat
ring. -/

namespace Sys2Proof.Machine

/-- The level of a reading (section 2.2). -/
inductive ReadingLevel where
  | alarm | pre | low
  deriving DecidableEq, Repr

/-- What a judgement gives: condition, confirm count and clear mark (R26, R27). -/
structure Judged where
  condition : Condition
  confirm : Nat
  clear : Bool
  deriving DecidableEq, Repr

/-- The judgement of a reading (R26 for NORMAL and PRE, R27 for ACTIVE). -/
def judgeReading (k : Nat) (c : Condition) (n : Nat) (clear : Bool) (level : ReadingLevel) : Judged :=
  let n' := min (n + 1) k
  match c, level with
  | .active, .alarm => ⟨.active, n', false⟩
  | .active, .pre => ⟨.active, 0, false⟩
  | .active, .low => if clear then ⟨.normal, 0, false⟩ else ⟨.active, 0, true⟩
  | _, .alarm => ⟨if n' = k then .active else .pre, n', false⟩
  | _, .pre => ⟨.pre, 0, false⟩
  | _, .low => ⟨.normal, 0, false⟩

/-- The smoke thresholds, pre-alarm and alarm, of a regime (R22, R30). -/
def ClassRec.thresholds (c : ClassRec) : Regime → Nat × Nat
  | .day => (c.tpDay, c.taDay)
  | .night => (c.tpNight, c.taNight)

/-- The compensated value of a smoke reading (R30). -/
def Arith.compensated (a : Arith) (r : Nat) : Nat := r - a.baseline / 256

/-- The level of a compensated value (R30). -/
def smokeLevel (tp ta c : Nat) : ReadingLevel := if ta ≤ c then .alarm else if tp ≤ c then .pre else .low

/-- The highest baseline of a class, in 1/256 units (R33). -/
def ClassRec.baselineLimit (c : ClassRec) : Nat := c.l * 256

/-- The baseline after a drift update at reading `r`, before the limit: one 64th of the gap, truncated toward zero (R32). -/
def driftStep (baseline r : Nat) : Nat :=
  ((baseline : Int) + ((r * 256 : Nat) - (baseline : Int)).tdiv 64).toNat

/-- What an evaluated SMOKE or HEAT reading gives (R37). `joins` says that the confirm count now lies strictly between 0 and
K (R9), `drifts` that the health becomes DRIFT. -/
structure Evaluated where
  arith : Arith
  condition : Condition
  clear : Bool
  joins : Bool := false
  drifts : Bool := false
  deriving DecidableEq, Repr

/-- The confirm count lies strictly between 0 and K (R13). -/
def strictlyBetween (n k : Nat) : Bool := 0 < n && n < k

/-- The learning reading of a SMOKE point (R29). -/
def learnBaseline (c : ClassRec) (p : Point) (a : Arith) (r : Nat) : Evaluated where
  arith := { a with baseline := min (r * 256) c.baselineLimit, learnt := true, readings := 0 }
  condition := p.condition
  clear := p.clearMark
  drifts := c.l < r

/-- An evaluated reading of a learnt SMOKE point: level, judgement, reading count, drift update (R30 to R33). -/
def judgeSmoke (c : ClassRec) (regime : Regime) (p : Point) (a : Arith) (r : Nat) : Evaluated :=
  let v := a.compensated r
  let th := c.thresholds regime
  let j := judgeReading c.k p.condition a.confirm p.clearMark (smokeLevel th.1 th.2 v)
  let count := (a.readings + 1) % 64
  let updates := count = 0 ∧ j.condition = .normal ∧ v ≤ c.w ∧ p.health ≠ .drift
  let b := if updates then driftStep a.baseline r else a.baseline
  let capped := updates ∧ c.baselineLimit < b
  { arith := { a with baseline := if capped then c.baselineLimit else b, readings := count, confirm := j.confirm }
    condition := j.condition
    clear := j.clear
    joins := strictlyBetween j.confirm c.k
    drifts := capped }

/-- An evaluated reading of a SMOKE point (R37). -/
def evaluateSmoke (c : ClassRec) (regime : Regime) (p : Point) (r : Nat) : Evaluated :=
  let a := p.arith.getD {}
  if a.learnt then judgeSmoke c regime p a r else learnBaseline c p a r

/-- The heat ring takes a reading (R35). -/
def pushRing (ring : List Nat) (h : Nat) : List Nat := if ring.length < 8 then ring ++ [h] else ring.tail ++ [h]

/-- A rise was computed, 8 readings being held, and it reaches `hr` (R35, R36). -/
def risesBy (ring : List Nat) (h hr : Nat) : Bool :=
  match ring with
  | oldest :: _ => 8 ≤ ring.length && oldest + hr ≤ h
  | [] => false

/-- Pre-alarm starts this many half-degrees below Hf (R22). -/
def heatPreMargin : Nat := 10

/-- The level of a heat reading (R36). -/
def heatLevel (c : ClassRec) (ring : List Nat) (h : Nat) : ReadingLevel :=
  if c.hf ≤ h ∨ risesBy ring h c.hr then .alarm else if c.hf - heatPreMargin ≤ h then .pre else .low

/-- An evaluated reading of a HEAT point (R37). -/
def evaluateHeat (c : ClassRec) (p : Point) (h : Nat) : Evaluated :=
  let a := p.arith.getD {}
  let j := judgeReading c.k p.condition a.confirm p.clearMark (heatLevel c a.ring h)
  { arith := { a with ring := pushRing a.ring h, confirm := j.confirm }
    condition := j.condition
    clear := j.clear
    joins := strictlyBetween j.confirm c.k }

end Sys2Proof.Machine
end

