-- ==== Sys2Proof/Machine/Operands.lean ====
section
/-! DEFINITION. The bodies of requests: the codes of the enumerated fields and the layouts of section 10.8 (R184). A
parser answers none for a body of another length, which the link controller has refused before (R172 step 4). -/

namespace Sys2Proof.Machine

/-! ### Codes of enumerated fields; none for an unknown code -/

def PointKind.ofCode : Nat → Option PointKind
  | 0 => some .absent
  | 1 => some .smoke
  | 2 => some .heat
  | 3 => some .breakglass
  | 4 => some .motion
  | 5 => some .contact
  | 6 => some .case
  | 7 => some .help
  | 8 => some .refuge
  | _ => none

def ZoneKind.ofCode : Nat → Option ZoneKind
  | 0 => some .gallery
  | 1 => some .circulation
  | 2 => some .stair
  | 3 => some .store
  | 4 => some .exit
  | _ => none

def ArmPolicy.ofCode : Nat → Option ArmPolicy
  | 0 => some .never
  | 1 => some .night
  | 2 => some .always
  | _ => none

def DoorKind.ofCode : Nat → Option DoorKind
  | 0 => some .egress
  | 1 => some .strongroom
  | 2 => some .fireLeaf
  | _ => none

def Way.ofCode : Nat → Option Way
  | 0 => some .both
  | 1 => some .aToB
  | _ => none

def LegendSource.ofCode : Nat → Option LegendSource
  | 0 => some .dark
  | 1 => some .lit
  | 2 => some .mainsFail
  | 3 => some .alarm
  | _ => none

def Regime.ofCode : Nat → Option Regime
  | 0 => some .day
  | 1 => some .night
  | _ => none

def Drive.ofCode : Nat → Option Drive
  | 0 => some .lock
  | 1 => some .unlock
  | 2 => some .holdOpen
  | 3 => some .close
  | _ => none

/-- The action of DOOR_GUARD or SCHEDULE: a drive, or the removal of the demand (CANCEL, NONE). -/
inductive DoorAction where
  | drive (v : Drive)
  | remove
  deriving DecidableEq, Repr

def DoorAction.ofCode : Nat → Option DoorAction
  | 4 => some .remove
  | n => (Drive.ofCode n).map .drive

/-- The interval of a SUPERVISE_SET code, in seconds. -/
def intervalOfCode : Nat → Option Nat
  | 0 => some 5
  | 1 => some 10
  | 2 => some 30
  | 3 => some 60
  | _ => none

def ZoneFlag.ofCode : Nat → Option ZoneFlag
  | 0 => some .fireAlarm
  | 1 => some .fireVerify
  | 2 => some .firePre
  | 3 => some .fireFault
  | 4 => some .intruder
  | 5 => some .armed
  | 6 => some .callWaiting
  | 7 => some .callEscalated
  | 8 => some .noRoute
  | 9 => some .avoid
  | _ => none

def GlobalFlag.ofCode : Nat → Option GlobalFlag
  | 0 => some .yes
  | 1 => some .night
  | 2 => some .mainsFail
  | 3 => some .autonomous
  | 4 => some .anyAlarm
  | 5 => some .alarmHold
  | _ => none

def Combine.ofCode : Nat → Option Combine
  | 0 => some .never
  | 1 => some .aNorB
  | 2 => some .bNotA
  | 3 => some .notA
  | 4 => some .aNotB
  | 5 => some .notB
  | 6 => some .aXorB
  | 7 => some .aNandB
  | 8 => some .aAndB
  | 9 => some .aXnorB
  | 10 => some .b
  | 11 => some .bOrNotA
  | 12 => some .a
  | 13 => some .aOrNotB
  | 14 => some .aOrB
  | 15 => some .always
  | _ => none

/-! ### Operands of a rule (R108, R184) -/

/-- A zone byte 0xFF names a global flag; a zone byte of 48 to 254 is outside the zone table. -/
def operandZoneOk (zone : Nat) : Bool := zone < 48 || zone == 0xFF

/-- The operand of a zone byte and a flag code; none for an unknown flag code and for the zone flag AVOID (R108). -/
def Operand.ofBytes (zone flag : Nat) : Option Operand :=
  if zone = 0xFF then (GlobalFlag.ofCode flag).map .global
  else match ZoneFlag.ofCode flag with
    | some .avoid => none
    | some f => some (.zone zone f)
    | none => none

/-- Whether an effect's target lies in its table (R108 step 2); an unknown effect kind is judged at step 3. -/
def effectTargetOk (kind target : Nat) : Bool :=
  match kind with
  | 0 => target < 32
  | 1 => target < 16
  | 2 => target < 16
  | 3 => target < 48
  | _ => true

/-- The effect of its bytes; none for an unknown effect kind or, for DOOR, an unknown drive (R108 step 3). -/
def Effect.ofBytes (kind target drive : Nat) : Option Effect :=
  match kind with
  | 0 => (Drive.ofCode drive).map (.door target)
  | 1 => some (.sounder target)
  | 2 => some (.relay target)
  | 3 => some (.avoid target)
  | _ => none

/-! ### Layouts -/

/-- A two-byte field, most significant byte first. -/
def word16 (hi lo : Byte) : Nat := hi.toNat * 256 + lo.toNat

/-- A field whose present bit is clear takes its default. -/
def fieldOr (present : Bool) (x dflt : Nat) : Nat := if present then x else dflt

structure LoadZoneBody where
  zone : Nat
  kind : Nat
  verify : Bool
  ackTime : Nat
  searchTime : Nat
  policy : Nat
  exitDelay : Nat
  entryDelay : Nat
  deriving DecidableEq, Repr

def LoadZoneBody.parse : List Byte → Option LoadZoneBody
  | [z, k, f, ack, s1, s0, p, ex, en] => some {
      zone := z.toNat, kind := k.toNat, verify := f.getLsbD 0
      ackTime := fieldOr (f.getLsbD 1) ack.toNat 30
      searchTime := fieldOr (f.getLsbD 2) (word16 s1 s0) 180
      policy := p.toNat
      exitDelay := fieldOr (f.getLsbD 3) ex.toNat 30
      entryDelay := en.toNat }
  | _ => none

structure LoadPointBody where
  point : Nat
  kind : Nat
  zone : Nat
  cls : Nat
  enabled : Bool
  entryRoute : Bool
  deriving DecidableEq, Repr

def LoadPointBody.parse : List Byte → Option LoadPointBody
  | [p, k, z, c, f] => some {
      point := p.toNat, kind := k.toNat, zone := z.toNat, cls := c.toNat
      enabled := f.getLsbD 0, entryRoute := f.getLsbD 1 }
  | _ => none

structure LoadClassBody where
  cls : Nat
  params : ClassRec
  deriving DecidableEq, Repr

def LoadClassBody.parse : List Byte → Option LoadClassBody
  | [c, f, tpd, tad, tpn, tan, k, w, l, hf, hr] => some {
      cls := c.toNat
      params := {
        tpDay := tpd.toNat, taDay := tad.toNat, tpNight := tpn.toNat, taNight := tan.toNat, k := k.toNat
        w := fieldOr (f.getLsbD 0) w.toNat 6
        l := fieldOr (f.getLsbD 1) l.toNat 80
        hf := fieldOr (f.getLsbD 2) hf.toNat 116
        hr := fieldOr (f.getLsbD 3) hr.toNat 12 } }
  | _ => none

structure LoadDoorBody where
  door : Nat
  kind : Nat
  zone : Nat
  nightLock : Bool
  entryRoute : Bool
  heldLimit : Nat
  deriving DecidableEq, Repr

def LoadDoorBody.parse : List Byte → Option LoadDoorBody
  | [d, k, z, f, h1, h0] => some {
      door := d.toNat, kind := k.toNat, zone := z.toNat
      nightLock := f.getLsbD 0, entryRoute := f.getLsbD 1
      heldLimit := fieldOr (f.getLsbD 2) (word16 h1 h0) 30 }
  | _ => none

structure LoadPassageBody where
  passage : Nat
  present : Nat
  a : Nat
  b : Nat
  cost : Nat
  way : Nat
  door : Nat
  deriving DecidableEq, Repr

def LoadPassageBody.parse : List Byte → Option LoadPassageBody
  | [p, f, a, b, c, w, d] => some {
      passage := p.toNat, present := f.toNat, a := a.toNat, b := b.toNat, cost := c.toNat, way := w.toNat, door := d.toNat }
  | _ => none

structure LoadSignBody where
  sign : Nat
  present : Nat
  zone : Nat
  group : Nat
  bindings : Vector Nat 4
  legend : Nat
  invert : Bool
  deriving DecidableEq, Repr

def LoadSignBody.parse : List Byte → Option LoadSignBody
  | [s, f, z, g, b0, b1, b2, b3, l, i] => some {
      sign := s.toNat, present := f.toNat, zone := z.toNat, group := g.toNat
      bindings := #v[b0.toNat, b1.toNat, b2.toNat, b3.toNat]
      legend := l.toNat, invert := i.getLsbD 0 }
  | _ => none

structure LoadRuleBody where
  entry : Nat
  enabled : Bool
  latch : Bool
  zoneA : Nat
  flagA : Nat
  zoneB : Nat
  flagB : Nat
  fn : Nat
  delay : Nat
  effect : Nat
  target : Nat
  drive : Nat
  deriving DecidableEq, Repr

def LoadRuleBody.parse : List Byte → Option LoadRuleBody
  | [e, f, za, fa, zb, fb, fn, d1, d0, ef, t, dr] => some {
      entry := e.toNat, enabled := f.getLsbD 0, latch := f.getLsbD 1
      zoneA := za.toNat, flagA := fa.toNat, zoneB := zb.toNat, flagB := fb.toNat
      fn := fn.toNat, delay := word16 d1 d0, effect := ef.toNat, target := t.toNat, drive := dr.toNat }
  | _ => none

structure DoorGuardBody where
  door : Nat
  action : Nat
  duration : Nat
  deriving DecidableEq, Repr

def DoorGuardBody.parse : List Byte → Option DoorGuardBody
  | [d, a, t1, t0] => some { door := d.toNat, action := a.toNat, duration := word16 t1 t0 }
  | _ => none

/-- A body of one byte. -/
def oneByte : List Byte → Option Nat
  | [x] => some x.toNat
  | _ => none

/-- A body of two bytes. -/
def twoBytes : List Byte → Option (Nat × Nat)
  | [x, y] => some (x.toNat, y.toNat)
  | _ => none

/-- The index of a QUERY body with this code. -/
def queryIndex (code : Nat) : List Byte → Option Nat
  | [c, x] => if c.toNat = code then some x.toNat else none
  | _ => none

/-- The part that QUERY CALLS names (R137): the queue, or the list of pending points from a start position. -/
inductive CallsPart where
  | queue
  | points (start : Nat)
  deriving DecidableEq, Repr

/-- The part of a QUERY CALLS body, 2 bytes for QUEUE and 3 for PENDING (R184). -/
def CallsPart.parse : List Byte → Option CallsPart
  | [c, p] => if c.toNat = 3 ∧ p.toNat = 0 then some .queue else none
  | [c, p, s] => if c.toNat = 3 ∧ p.toNat = 1 then some (.points s.toNat) else none
  | _ => none

end Sys2Proof.Machine
end

