-- ==== Sys2Proof/Machine/Routes.lean ====
section
/-! DEFINITION. The route engine (Chapter 8): blocking and usability, triggers and blanking, the pass, publication. -/

namespace Sys2Proof.Machine

/-! ### Blocked zones, penalties, usable passages (R100, R142, R143) -/

/-- The zone is blocked: in ALARM, or AVOID is true (R142). -/
def Zone.blocked (z : Zone) : Bool := z.fire.isAlarm || z.avoid

/-- The entry penalty of a zone: 64 in PRE and VERIFY (R142). -/
def Zone.penalty (z : Zone) : Nat := if z.fire.isPre || z.fire.isVerify then 64 else 0

/-- A door kind with a lock (section 5.1). -/
def DoorKind.lockable : DoorKind → Bool
  | .egress => true
  | .strongroom => true
  | .fireLeaf => false

/-- Whether a door is usable by its commanded drive (R100). -/
def Door.usable (r : Door) : Bool := !r.kind.lockable || r.drive == .unlock

/-- The snapshot of the present state (R144). -/
def Device.snapshot (d : Device) : Snapshot where
  zones := Tab.map (Option.map fun z => { exit := z.kind == .exit, blocked := z.blocked, penalty := z.penalty }) d.zones
  doorUsable := Tab.map (fun r => r.all Door.usable) d.doors

def Snapshot.zone? (s : Snapshot) (z : Nat) : Option ZoneView := Tab.get? s.zones z

/-- The passage touches the zone (R139). -/
def Passage.touches (p : Passage) (z : Nat) : Bool := p.a == z || p.b == z

/-- The passage leads from zone `x` into zone `y`, whatever its way. -/
def Passage.joins (p : Passage) (x y : Nat) : Bool := (p.a == x && p.b == y) || (p.b == x && p.a == y)

/-- The way of the passage allows the direction from `x` into `y` (R139). -/
def Passage.allows (p : Passage) (x y : Nat) : Bool :=
  (p.a == x && p.b == y) || (p.way == .both && p.b == x && p.a == y)

/-- The passage is usable from `x` to `y` by the snapshot (R143). -/
def Snapshot.usable (s : Snapshot) (p : Passage) (x y : Nat) : Bool :=
  p.allows x y && p.door.all (fun n => Tab.getD s.doorUsable n true) && !(s.zone? y).any (·.blocked)

/-! ### A pass (R145 to R147) -/

/-- The distance of a zone that no route leaves (R145). -/
def unreachable : Nat := 4095

abbrev Distances := Vector Nat 48

def Distances.at (v : Distances) (z : Nat) : Nat := Tab.getD v z unreachable

/-- The working distances at the start of a pass (R145). -/
def Snapshot.start (s : Snapshot) : Distances :=
  Tab.map (fun v => if v.any fun (w : ZoneView) => w.exit then 0 else unreachable) s.zones

/-- The entry penalty of zone `y` in the snapshot. -/
def Snapshot.penalty (s : Snapshot) (y : Nat) : Nat := ((s.zone? y).map (·.penalty)).getD 0

/-- What a step by passage `p` into zone `y` costs (R146). -/
def Snapshot.stepCost (s : Snapshot) (p : Passage) (y : Nat) : Nat := p.cost + s.penalty y

/-- Relax the direction from `x` into `y` of passage `p` (R145). -/
def Snapshot.relax (s : Snapshot) (p : Passage) (x y : Nat) (v : Distances) : Distances :=
  match s.zone? x with
  | none => v
  | some w =>
    if w.exit then v
    else if !s.usable p x y || v.at y == unreachable then v
    else
      let c := s.stepCost p y + v.at y
      if c ≤ 4094 ∧ c < v.at x then Tab.put v x c else v

/-- One sweep over the loaded passages, in ascending index (R145). -/
def Snapshot.sweep (s : Snapshot) (passages : Vector (Option Passage) 96) (v : Distances) : Distances :=
  forEach 96 (fun i v => match Tab.get? passages i with
    | none => v
    | some p =>
      let v := s.relax p p.a p.b v
      if p.way = .both then s.relax p p.b p.a v else v) v

/-- Sweeps until one lowers nothing, at most `fuel` of them; the distances and the number of sweeps made, `made` of them
before (R145). -/
def Snapshot.sweeps (s : Snapshot) (passages : Vector (Option Passage) 96) : Nat → Nat → Distances → Distances × Nat
  | 0, made, v => (v, made)
  | fuel + 1, made, v =>
    let w := s.sweep passages v
    if w = v then (w, made + 1) else s.sweeps passages fuel (made + 1) w

/-- The zone on the other side of passage `p` (R139). -/
def Passage.far (p : Passage) (x : Nat) : Nat := if p.a = x then p.b else p.a

/-- The next passage of zone `z` is this one (R146). -/
def Snapshot.isNext (s : Snapshot) (v : Distances) (z : Nat) (p : Passage) : Bool :=
  p.touches z && s.usable p z (p.far z) && v.at (p.far z) < unreachable
    && s.stepCost p (p.far z) + v.at (p.far z) == v.at z

/-- The entry of a loaded zone in the plan (R146, R147). -/
def Snapshot.entry (s : Snapshot) (passages : Vector (Option Passage) 96) (v : Distances) (z : Nat) (w : ZoneView) : PlanEntry where
  distance := v.at z
  next :=
    if w.exit || v.at z == unreachable then none
    else (firstFrom 96 0 fun i => (Tab.get? passages i).any (s.isNext v z)).bind fun i =>
      (Tab.get? passages i).map fun p => { passage := i, cost := s.stepCost p (p.far z) }

/-- The whole pass on a snapshot (R145, R146). -/
def Snapshot.pass (s : Snapshot) (passages : Vector (Option Passage) 96) : WorkingPlan :=
  let r := s.sweeps passages 48 0 s.start
  { entries := Tab.build 48 fun z => (s.zone? z).map (s.entry passages r.1 z), sweeps := r.2 }

/-! ### Triggers and blanking (R148, R149, R152) -/

/-- What a blocking trigger blocks: a zone, or the passages of a door (R152). -/
inductive Block where
  | zone (z : Nat)
  | door (n : Nat)
  deriving DecidableEq, Repr

/-- Whether an arrow bound to passage `p` in a sign of zone `z` leads into the block (R152). -/
def Device.leadsInto (d : Device) (b : Block) (z p : Nat) : Bool :=
  (d.passage? p).any fun r => match b with
    | .zone x => r.joins z x
    | .door n => r.door == some n && r.touches z

/-- Set the blank mark of each arrow of a sign that leads into the block (R152). -/
def Device.blankSign (d : Device) (b : Block) (r : Sign) : Sign :=
  { r with blank := Tab.build 4 fun k =>
      Tab.getD r.blank k false || (Tab.get? r.bindings k).any (d.leadsInto b r.zone) }

/-- The blanking of a blocking trigger: every loaded sign (R152). -/
def Device.blankInto (d : Device) (b : Block) : Device :=
  { d with signs := Tab.map (Option.map (d.blankSign b)) d.signs }

/-- The route engine takes a trigger (R148, R149): in IDLE it starts a pass, in the event that started one nothing, else
it sets the rerun mark, and the stale mark when the trigger is blocking. -/
def RouteEngine.trigger (r : RouteEngine) (blocking : Bool) : RouteEngine :=
  match r.engine with
  | .idle => { r with engine := .computing none, rerun := false, stale := false }
  | .computing none => r
  | .computing (some _) => { r with rerun := true, stale := r.stale || blocking }

/-- A trigger in RUNNING, with its blanking when it is blocking (R148, R149, R152). -/
def Device.trigger (d : Device) (block : Option Block) : Device :=
  if d.isRunning then
    let d := { d with route := d.route.trigger block.isSome }
    match block with
    | none => d
    | some b => d.blankInto b
  else d

/-- The end of the event that started a pass: its snapshot is taken (R144). -/
def Device.takeSnapshot (d : Device) : Device :=
  match d.route.engine with
  | .computing none => { d with route := { d.route with engine := .computing (some d.snapshot) } }
  | _ => d

/-! ### Completion and publication (R150, R151) -/

/-- The entry of a zone in the published plan. -/
def Device.planEntry? (d : Device) (z : Nat) : Option PlanEntry :=
  d.route.plan.bind fun p => Tab.get? p.work.entries z

/-- How many zones of a plan are UNREACHABLE (R151). -/
def WorkingPlan.unreachableCount (w : WorkingPlan) : Nat :=
  w.entries.toList.countP fun e => e.any fun x => x.distance == unreachable

/-- Set the NO_ROUTE flag of a loaded zone from the published plan, with its report (R151). -/
def Device.setNoRoute (z : Nat) (d : Device) : Device :=
  match d.zone? z with
  | none => d
  | some r =>
    let v := (d.planEntry? z).any fun e => e.distance == unreachable
    if r.noRoute = v then d
    else (d.putZone z { r with noRoute := v }).report .route z (.zoneNoRoute v)

/-- Clear every blank mark (R151). -/
def Device.clearBlanks (d : Device) : Device :=
  { d with signs := Tab.map (Option.map fun r => { r with blank := Vector.replicate 4 false }) d.signs }

/-- Publish a working plan (R151). -/
def Device.publish (d : Device) (w : WorkingPlan) : Device :=
  let n := (d.route.planNumber + 1) % 65536
  let d := { d with route := { d.route with planNumber := n, plan := some { work := w, number := n, stamp := d.clock } } }
  let d := d.clearBlanks.report .route 0 (.routePlan n w.unreachableCount)
  forEach 48 Device.setNoRoute d

/-- The completion of the pass on snapshot `s` (R150). -/
def Device.completePass (d : Device) (s : Snapshot) : Device :=
  let again : RouteEngine → RouteEngine := fun r => { r with engine := .computing none, rerun := false, stale := false }
  if d.route.stale then { d with route := again { d.route with discards := (d.route.discards + 1) % 65536 } }
  else
    let rerun := d.route.rerun
    let d := d.publish (s.pass d.passages)
    { d with route := if rerun then again d.route else { d.route with engine := .idle, rerun := false, stale := false } }

/-- The route engine with a pass abandoned and no plan published (R154, R155). -/
def RouteEngine.stop (r : RouteEngine) : RouteEngine :=
  { r with engine := .idle, rerun := false, stale := false, plan := none }

end Sys2Proof.Machine
end

