-- ==== Sys2Proof/Machine/Zones.lean ====
section
/-! DEFINITION. Zone logic: the fire part (Chapter 3), the security part (Chapter 4), and the sounder stage. -/

namespace Sys2Proof.Machine

/-! ### Sounders (R57 to R59) -/

/-- A circuit takes a new state, with its SOUNDER report (R57). -/
def Device.changeSounder (d : Device) (c : Nat) (st : SounderState) : Device :=
  (d.putSounder c { d.sounder c with state := st }).report .fire c (.sounder st)

/-- A circuit's request rises or falls (R57). -/
def Device.requestSounder (d : Device) (c : Nat) (on : Bool) : Device :=
  let s := d.sounder c
  if s.request = on then d
  else
    let d := d.putSounder c { s with request := on }
    if on then (if s.state = .quiet then d.changeSounder c .sounding else d)
    else if s.state = .quiet then d else d.changeSounder c .quiet

/-- Every circuit in state `old` takes state `new` (R58, R59), with the SOUNDER reports in ascending circuit number
(log 12). -/
def Device.shiftSounders (d : Device) (old new : SounderState) : Device :=
  forEach 16 (fun c d => if (d.sounder c).state = old then d.changeSounder c new else d) d

/-- How many circuits are in a state. -/
def Device.soundersIn (d : Device) (st : SounderState) : Nat := d.sounders.toList.countP fun s => s.state == st

/-- Every silenced circuit sounds again (R59). -/
def Device.resoundAll (d : Device) : Device := d.shiftSounders .silenced .sounding

/-! ### ANY_ALARM and the alarm hold (R56) -/

/-- The length of the alarm hold (R56). -/
def holdSeconds : Nat := 60

/-- ANY_ALARM was `before`: report its change, and start or cancel the alarm hold, whose ALARM_HOLD report stands after the
ANY_ALARM report of the event (R56; log 12). -/
def Device.alarmEdge (d : Device) (before : Bool) : Device :=
  if d.anyAlarm = before then d
  else
    let d := d.report .fire 0 (.anyAlarm (!before))
    if before then ({ d with alarmHold := some (d.timer holdSeconds) }).report .fire 0 (.alarmHold true)
    else if d.holding then ({ d with alarmHold := none }).report .fire 0 (.alarmHold false)
    else d

/-! ### The fire state machine (R43 to R54) -/

/-- Give zone `z` a fire state: the ZONE_FIRE report, ANY_ALARM and the alarm hold, the resound at an entry into ALARM, and
the route engine's trigger, blocking at an entry into ALARM (R54, R56, R59, R148). The other readers act at the end of
the event. -/
def Device.changeFire (d : Device) (z : Nat) (f : Fire) : Device :=
  match d.zone? z with
  | none => d
  | some r =>
    let before := d.anyAlarm
    let d := d.putZone z { r with fire := f }
    if r.fire.view = f.view then d
    else
      let d := (d.report .fire z (.zoneFire f.view)).alarmEdge before
      let enters := f.isAlarm && !r.fire.isAlarm
      let d := if enters then d.resoundAll else d
      if r.fire.sameState f then d
      else d.trigger (if enters then some (.zone z) else none)

/-- The ack station of a phase (R40). -/
def Phase.ackStation : Phase → Option Nat
  | .ackWait => none
  | .search s => some s

/-- The ALARM that a fire state becomes: out of VERIFY the origin point and any ack station are kept (R46, R47, R49). -/
def Fire.toAlarm (f : Fire) (cause : AlarmCause) (point : Option Nat) (now : Seconds) : Fire :=
  match f with
  | .verify ph _ o => .alarm cause point now (some o) ph.ackStation
  | _ => .alarm cause point now none none

/-- Zone `z` enters ALARM (R45 to R49, R53). -/
def Device.enterAlarm (d : Device) (z : Nat) (cause : AlarmCause) (point : Option Nat) : Device :=
  d.changeFire z ((d.fire z).toAlarm cause point d.clock)

/-- QUIET or PRE by the zone's PRE count (R44, R51, R52). -/
def Zone.restFire (r : Zone) : Fire := if 0 < r.preCount then .pre else .quiet

/-- One point of the zone leaves and one joins the counts of a condition (R43). -/
def Zone.countFire (old new : Condition) (r : Zone) : Zone :=
  let r := match old with
    | .normal => r
    | .pre => { r with preCount := r.preCount - 1 }
    | .active => { r with activeCount := r.activeCount - 1 }
  match new with
  | .normal => r
  | .pre => { r with preCount := r.preCount + 1 }
  | .active => { r with activeCount := r.activeCount + 1 }

/-- A first SMOKE or HEAT alarm of the zone is verified: verify option on, DAY and LINKED (R45). -/
def Device.verifies (d : Device) (r : Zone) : Bool := r.verify && d.regime == .day && !d.isAutonomous

/-- Zone logic judges a change of condition of fire point `p` of zone `z`, after the counts (R43 to R48). -/
def Device.judgeFirePoint (d : Device) (z p : Nat) (kind : PointKind) (new : Condition) : Device :=
  match d.zone? z with
  | none => d
  | some r =>
    match r.fire with
    | .alarm _ _ _ _ _ => d
    | .verify _ _ origin =>
      if new ≠ .active then d
      else if kind = .breakglass then d.enterAlarm z .breakglass (some p)
      else if p = origin then d
      else d.enterAlarm z .secondPoint (some p)
    | _ =>
      if new = .active then
        if kind = .breakglass then d.enterAlarm z .breakglass (some p)
        else if d.verifies r then d.changeFire z (.verify .ackWait (d.timer r.ackTime) p)
        else d.enterAlarm z .point (some p)
      else if r.activeCount = 0 then d.changeFire z r.restFire
      else d

/-- A change of condition of fire point `p` reaches its zone: the counts, then the judgement (R43). -/
def Device.firePointChanged (d : Device) (z p : Nat) (kind : PointKind) (old new : Condition) : Device :=
  (d.updZone z (Zone.countFire old new)).judgeFirePoint z p kind new

/-- Every zone in VERIFY enters ALARM (R53), in ascending order; the ANY_ALARM, ALARM_HOLD and SOUNDER reports that one entry
makes stand before the ZONE_FIRE report of the next (log 12). -/
def Device.promoteVerify (d : Device) (cause : AlarmCause) : Device :=
  forEach 48 (fun z d => if (d.fire z).isVerify then d.enterAlarm z cause none else d) d

/-- The fault count of a zone moves by one point, with the ZONE_FAULT report of a change of FIRE_FAULT (R43, R55). -/
def Device.setFaultCount (d : Device) (z n : Nat) : Device :=
  match d.zone? z with
  | none => d
  | some r =>
    let d := d.putZone z { r with faultCount := n }
    if decide (0 < r.faultCount) = decide (0 < n) then d else d.report .fire z (.zoneFault (0 < n))

/-- The fault count of the zone as it stands; 0 for an unloaded zone. -/
def Device.faultCount (d : Device) (z : Nat) : Nat := ((d.zone? z).map (·.faultCount)).getD 0

/-! ### The security machine (R65 to R77) -/

/-- The arm policy is active in the regime (R63). -/
def ArmPolicy.activeIn (p : ArmPolicy) (r : Regime) : Bool :=
  match p with
  | .never => false
  | .night => r == .night
  | .always => true

/-- Zone `z` enters a security state, with its ZONE_SECURITY report (R77). -/
def Device.enterSecurity (d : Device) (z : Nat) (s : Security) : Device :=
  match d.zone? z with
  | none => d
  | some r => (d.putZone z { r with security := s }).report .security z (.zoneSecurity s.view)

/-- Zone `z` is to have security state `s`, which it enters if it is in another of the six (R77). -/
def Device.changeSecurity (d : Device) (z : Nat) (s : Security) : Device :=
  match d.zone? z with
  | none => d
  | some r => if r.security.sameState s then d.putZone z { r with security := s } else d.enterSecurity z s

/-- Zone `z` goes to INTRUDER (R71 to R74). -/
def Device.intrude (d : Device) (z : Nat) (cause : IntruderCause) (src : Source) : Device :=
  d.changeSecurity z (.intruder cause src d.clock)

/-- The exit check: UNSET_FAULT with an open contact, else SET (R66). -/
def Zone.exitCheck (r : Zone) : Security := if 0 < r.openContacts then .unsetFault else .armed

/-- Zone `z` begins setting (R66) and queues its report (R67, R77), also where its exit check leads from UNSET_FAULT into
UNSET_FAULT again (log 37). -/
def Device.beginSetting (d : Device) (z : Nat) : Device :=
  match d.zone? z with
  | none => d
  | some r => d.enterSecurity z (if r.exitDelay = 0 then r.exitCheck else .setting (d.timer r.exitDelay))

/-- The security state is OFF or UNSET_FAULT. -/
def Security.isUnset : Security → Bool
  | .off => true
  | .unsetFault => true
  | _ => false

/-- A masked event is reported unless the zone is OFF or UNSET_FAULT (R75). -/
def Device.maskedEvent (d : Device) (z : Nat) (r : Zone) (src : Source) : Device :=
  if r.security.isUnset then d else d.report .security z (.securityMasked src)

/-- An entry by the entry route: ENTRY, or INTRUDER when the entry delay is 0 (R71, R72). -/
def Device.entryBy (d : Device) (z : Nat) (r : Zone) (cause : IntruderCause) (src : Source) : Device :=
  if r.entryDelay = 0 then d.intrude z cause src else d.changeSecurity z (.entry (d.timer r.entryDelay) src)

/-- A CONTACT or CASE point joins or leaves its count (R65). -/
def Zone.countSecurity (kind : PointKind) (old new : Condition) (r : Zone) : Zone :=
  let moved : Nat → Nat := fun n =>
    if old ≠ .active ∧ new = .active then n + 1
    else if old = .active ∧ new ≠ .active then n - 1
    else n
  match kind with
  | .contact => { r with openContacts := moved r.openContacts }
  | .case => { r with openCases := moved r.openCases }
  | _ => r

/-- A security point of zone `z` becomes ACTIVE (R71, R73 to R75). -/
def Device.judgeSecurityPoint (d : Device) (z p : Nat) (kind : PointKind) (entryRoute : Bool) : Device :=
  match d.zone? z with
  | none => d
  | some r =>
    if kind = .case then
      if r.policy = .never ∨ r.security.isIntruder then d else d.intrude z .case (.point p)
    else if r.fire.hot then d.maskedEvent z r (.point p)
    else if r.security = .armed then
      if kind = .motion then d.intrude z .motion (.point p)
      else if entryRoute then d.entryBy z r .contact (.point p)
      else d.intrude z .contact (.point p)
    else d

/-- A change of condition of security point `p` reaches its zone: the counts, then the machine for a change to ACTIVE
(R65). -/
def Device.securityPointChanged (d : Device) (z p : Nat) (kind : PointKind) (entryRoute : Bool) (old new : Condition) :
    Device :=
  let d := d.updZone z (Zone.countSecurity kind old new)
  if new = .active then d.judgeSecurityPoint z p kind entryRoute else d

/-- A door opened event reaches the door's guarded zone; discarded for an unloaded zone and in COMMISSIONING (R72, R75). -/
def Device.doorOpenedEvent (d : Device) (z door : Nat) (entryRoute : Bool) : Device :=
  if !d.isRunning then d
  else match d.zone? z with
  | none => d
  | some r =>
    if r.fire.hot then d.maskedEvent z r (.door door)
    else if r.security = .armed ∧ entryRoute then d.entryBy z r .doorOpen (.door door)
    else d

/-- A door forced event reaches the door's guarded zone (R72, R75). -/
def Device.doorForcedEvent (d : Device) (z door : Nat) : Device :=
  if !d.isRunning then d
  else match d.zone? z with
  | none => d
  | some r =>
    if r.fire.hot then d.maskedEvent z r (.door door)
    else match r.security with
      | .armed => d.intrude z .forcedDoor (.door door)
      | .entry _ _ => d.intrude z .forcedDoor (.door door)
      | _ => d

/-- The change to NIGHT: NIGHT-policy zones in OFF or UNSET_FAULT begin setting (R67). -/
def Device.nightSetting (d : Device) : Device :=
  forEach 48 (fun z d => match d.zone? z with
    | none => d
    | some r => if r.policy = .night ∧ r.security.isUnset then d.beginSetting z else d) d

/-- The change to DAY: NIGHT-policy zones that are not in INTRUDER go to OFF (R68). -/
def Device.dayUnsetting (d : Device) : Device :=
  forEach 48 (fun z d => match d.zone? z with
    | none => d
    | some r => if r.policy = .night ∧ !r.security.isIntruder then d.changeSecurity z .off else d) d

end Sys2Proof.Machine
end

