-- ==== Sys2Proof/Machine/Points.lean ====
section
/-! DEFINITION. Points and loop controllers (Chapter 1): conditions and health handed on, answers, the confirm queue, and
the choice of the next exchange. -/

namespace Sys2Proof.Machine

/-- The kind is a fire kind (section 3.1). -/
def isFireKind : PointKind → Bool
  | .smoke | .heat | .breakglass => true
  | _ => false

/-- The kind is a security kind (section 4.1). -/
def isSecurityKind : PointKind → Bool
  | .motion | .contact | .case => true
  | _ => false

/-- The report class of a point of this kind (R3, R12); an ABSENT point has none of its own (log 7). -/
def pointClass (k : PointKind) : ReportClass :=
  if isFireKind k then .fire
  else if isSecurityKind k then .security
  else if k = .absent then ReportClass.ofCode (Config.absentHealthClass % 6)
  else .call

/-- The block that owns the consequence takes a change of condition of point `p` (R3). -/
def Device.handOn (d : Device) (p : Nat) (r : Point) (new : Condition) : Device :=
  if isFireKind r.kind then d.firePointChanged r.zone p r.kind r.condition new
  else if isSecurityKind r.kind then d.securityPointChanged r.zone p r.kind r.entryRoute r.condition new
  else if new = .active then d.press p
  else d

/-- Point `p` takes a condition: a change is reported and handed on (R3). Its POINT_CONDITION report stands before what the
change makes of the zone, and before the CALL_STATE or CALL_PENDING report of a press (log 12). -/
def Device.setCondition (d : Device) (p : Nat) (new : Condition) : Device :=
  let r := d.point p
  if r.condition = new then d
  else ((d.putPoint p { r with condition := new }).report (pointClass r.kind) p (.pointCondition new)).handOn p r new

/-- What a health counts in the fault count (R40). -/
def Health.faults (h : Health) : Nat := if h = .ok then 0 else 1

/-- Point `p` takes a health: a change is reported and counted by the zone (R12, R43). -/
def Device.setHealth (d : Device) (p : Nat) (new : Health) : Device :=
  let r := d.point p
  if r.health = new then d
  else
    let d := (d.putPoint p { r with health := new }).report (pointClass r.kind) p (.pointHealth new)
    d.setFaultCount r.zone (d.faultCount r.zone + new.faults - r.health.faults)

/-- The health that an event gives a point unless it is DRIFT, which it keeps (R6, R7, R10). -/
def Health.unlessDrift (old new : Health) : Health := if old = .drift then .drift else new

/-! ### Loops (R4, R5, R13, R14) -/

/-- The point number of an address (section 1.1). -/
def pointOf (loop addr : Nat) : Nat := 64 * loop + addr

/-- The address has a configured point (R5). -/
def Device.configured (d : Device) (l a : Nat) : Bool := (d.point (pointOf l a)).kind != .absent

/-- The loop starts its next sweep exchange, or is idle with no configured point (R5). -/
def Device.startSweep (d : Device) (l : Nat) : Device :=
  let r := d.loop l
  match nextInRound 64 r.sweep (d.configured l) with
  | some a => d.putLoop l { r with sweep := some a, exchange := some (.sweep a) }
  | none => d.putLoop l { r with exchange := none }

/-- After the completion of an exchange: a confirm poll after a sweep exchange while the queue holds entries, else a sweep
exchange (R5, R14). -/
def Device.nextPoll (d : Device) (l : Nat) (done : Exchange) : Device :=
  let r := d.loop l
  match done, r.confirmQueue with
  | .sweep _, a :: rest => d.putLoop l { r with exchange := some (.confirm a), confirmQueue := rest }
  | _, _ => d.startSweep l

/-- The confirm queue holds at most this many addresses (R13). -/
def confirmCapacity : Nat := 4

/-- An address joins the tail of its loop's confirm queue, unless it is there or the queue is full (R13). -/
def Device.joinConfirm (d : Device) (l a : Nat) : Device :=
  let r := d.loop l
  if a ∈ r.confirmQueue ∨ confirmCapacity ≤ r.confirmQueue.length then d
  else d.putLoop l { r with confirmQueue := r.confirmQueue ++ [a] }

/-- The entry of a point leaves its loop's confirm queue (R15). -/
def Device.leaveConfirm (d : Device) (p : Nat) : Device :=
  let r := d.loop (p / 64)
  d.putLoop (p / 64) { r with confirmQueue := r.confirmQueue.filter fun a => a != p % 64 }

def Exchange.addr : Exchange → Nat
  | .sweep a => a
  | .confirm a => a

/-! ### Answers (R6 to R10) -/

/-- A SMOKE or HEAT evaluation takes effect: the arithmetic part and clear mark, the condition, the health, the confirm
queue (R9, R13, R37). Where one reading does both, the ZONE_FIRE and ANY_ALARM reports that the condition makes of its zone
stand before POINT_HEALTH and ZONE_FAULT (log 12). -/
def Device.takeEvaluation (d : Device) (l a : Nat) (e : Evaluated) : Device :=
  let p := pointOf l a
  let d := d.putPoint p { d.point p with arith := some e.arith, clearMark := e.clear }
  let d := d.setCondition p e.condition
  let d := if e.drifts then d.setHealth p .drift else d
  if e.joins then d.joinConfirm l a else d

/-- The condition that a reading gives a point of one of the other kinds (R8, R38). -/
def plainCondition (kind : PointKind) (reading : Nat) (tamper : Bool) : Condition :=
  if reading ≠ 0 ∨ (tamper ∧ (kind = .contact ∨ kind = .case)) then .active else .normal

/-- An accepted answer is evaluated (R8, R9). A class that is not loaded, which COMMIT rules out (R25), judges nothing. -/
def Device.evaluate (d : Device) (l a : Nat) (reading : Nat) (tamper : Bool) : Device :=
  let p := pointOf l a
  let r := d.point p
  match r.kind with
  | .smoke => match d.class? r.cls with
    | some c => d.takeEvaluation l a (evaluateSmoke c d.regime r reading)
    | none => d
  | .heat => match d.class? r.cls with
    | some c => d.takeEvaluation l a (evaluateHeat c r reading)
    | none => d
  | .absent => d
  | k => d.setCondition p (plainCondition k reading tamper)

/-- An answer from a configured point (R6, R7); the reports of its health stand before those of its evaluation (log 12). -/
def Device.takeAnswer (d : Device) (l a : Nat) (code : Option PointKind) (reading : Nat) (tamper : Bool) : Device :=
  let p := pointOf l a
  let r := d.point p
  let d := d.putPoint p { r with misses := 0 }
  if code = some r.kind then
    let d := d.setHealth p (r.health.unlessDrift .ok)
    let d := d.putPoint p { d.point p with held := reading }
    if d.isRunning && r.enabled then d.evaluate l a reading tamper else d
  else d.setHealth p (r.health.unlessDrift .wrongKind)

/-- No answer from a configured point (R10). -/
def Device.takeNoAnswer (d : Device) (l a : Nat) : Device :=
  let p := pointOf l a
  let r := d.point p
  let n := min 3 (r.misses + 1)
  let d := d.putPoint p { r with misses := n }
  if n = 3 then d.setHealth p (r.health.unlessDrift .noAnswer) else d

/-- The completion of the exchange in flight on a loop: discarded for an ABSENT record, else judged by `f`; then the next
exchange starts (R4, R5). -/
def Device.completeExchange (d : Device) (l : Nat) (f : Nat → Device → Device) : Device :=
  match (d.loop l).exchange with
  | none => d
  | some x =>
    let d := if d.configured l x.addr then f x.addr d else d
    d.nextPoll l x

/-! ### Disabling and enabling (R16, R17, R28) -/

/-- The arithmetic part with the confirm count at 0. -/
def Point.noConfirm (r : Point) : Point :=
  { r with arith := r.arith.map fun a => { a with confirm := 0 }, clearMark := false }

/-- The arithmetic part with the confirm count at 0 and the ring empty, the clear mark no (R17, R20, R21, R28). -/
def Point.noHistory (r : Point) : Point :=
  { r with arith := r.arith.map fun a => { a with confirm := 0, ring := [] }, clearMark := false }

/-- An enabled point is disabled (R16). Its confirm count becomes 0 and its clear mark no, as R28 says of this event; of the
arithmetic part, of which R16 says that it keeps its contents, the rest is kept (log 4). -/
def Device.disablePoint (d : Device) (p : Nat) : Device :=
  ((d.putPoint p { (d.point p).noConfirm with enabled := false }).leaveConfirm p).setCondition p .normal

/-- A disabled point is enabled (R17). -/
def Device.enablePoint (d : Device) (p : Nat) : Device :=
  d.putPoint p { (d.point p).noHistory with enabled := true }

end Sys2Proof.Machine
end

