-- ==== Sys2Proof/Machine/Doors.lean ====
section
/-! DEFINITION. The door controller (Chapter 5): demands and the commanded drive, the conditions of lockable doors and
fire leaves, node watch and statuses, and the exchanges of the door line. -/

namespace Sys2Proof.Machine

/-- Lock confirmation and node watch: 3.0 s, 30 tenths (R80). -/
def confirmSeconds : Nat := 3

/-- The REX shunt (R95). -/
def shuntSeconds : Nat := 10

/-- The drive of a door without a demand (section 5.1). -/
def DoorKind.rest (k : DoorKind) : Drive := if k.lockable then .lock else .holdOpen

/-- Whether a drive fits a door kind (R80, R122). -/
def DoorKind.fits (k : DoorKind) : Drive → Bool
  | .lock => k.lockable
  | .unlock => k.lockable
  | .holdOpen => !k.lockable
  | .close => !k.lockable

/-- The drive of the highest demand present and its level (R83). -/
def Demands.top (m : Demands) (k : DoorKind) : Drive × Level :=
  match m.life, m.rule, m.station, m.intrusion, m.timetable with
  | some v, _, _, _, _ => (v, .life)
  | none, some v, _, _, _ => (v, .rule)
  | none, none, some s, _, _ => (s.drive, .station)
  | none, none, none, some v, _ => (v, .intrusion)
  | none, none, none, none, some v => (v, .timetable)
  | none, none, none, none, none => (k.rest, .rest)

/-! ### Conditions (R90 to R99) -/

/-- Give a door a condition, with the DOOR_CONDITION report of a change (R96). -/
def Device.changeCondition (d : Device) (n : Nat) (c : DoorCondition) : Device :=
  match d.door? n with
  | none => d
  | some r =>
    if r.condition = some c then d
    else (d.putDoor n { r with condition := some c }).report .door n (.doorCondition c)

/-- The door enters LOCKING with a fresh confirm timer (R90, R92, R94). -/
def Device.startLocking (d : Device) (n : Nat) : Device :=
  (d.updDoor n fun r => { r with confirm := some (d.timer confirmSeconds) }).changeCondition n .locking

/-- The held timer of a door starts at its held limit (R96, R97). -/
def Device.startHeld (d : Device) (n : Nat) : Device :=
  d.updDoor n fun r => { r with held := some (d.timer r.heldLimit) }

/-- A lockable door's drive becomes LOCK (R90). -/
def Device.driveLocks (d : Device) (n : Nat) (r : Door) : Device :=
  match r.condition with
  | some .free => d.startLocking n
  | some .opened => (d.startHeld n).changeCondition n .lockWait
  | _ => d

/-- A lockable door's drive becomes UNLOCK (R91). -/
def Device.driveUnlocks (d : Device) (n : Nat) (r : Door) : Device :=
  let d := d.updDoor n fun r => { r with confirm := none, held := none }
  match r.condition with
  | some .secure | some .locking | some .lockFail => d.changeCondition n .free
  | some .lockWait | some .opened | some .forced | some .held => d.changeCondition n .opened
  | _ => d

/-- A fire leaf's drive becomes CLOSE (R97). -/
def Device.driveCloses (d : Device) (n : Nat) (r : Door) : Device :=
  match r.condition with
  | some .opened => d.startHeld n
  | _ => d

/-- A fire leaf's drive becomes HOLD_OPEN (R97). -/
def Device.driveHolds (d : Device) (n : Nat) (r : Door) : Device :=
  let d := d.updDoor n fun r => { r with held := none }
  match r.condition with
  | some .held => d.changeCondition n .opened
  | _ => d

/-- The new drive is judged against the condition of door `r` (R83 step 2). -/
def Device.judgeDrive (d : Device) (n : Nat) (r : Door) (v : Drive) : Device :=
  match v with
  | .lock => d.driveLocks n r
  | .unlock => d.driveUnlocks n r
  | .close => d.driveCloses n r
  | .holdOpen => d.driveHolds n r

/-! ### Demands (R83 to R89) -/

/-- Some loaded passage names the door. -/
def Device.passageNames (d : Device) (n : Nat) : Bool :=
  (List.range 96).any fun p => (d.passage? p).any fun r => r.door == some n

/-- The lowest-indexed loaded passage that names the door (R101). -/
def Device.passageOf (d : Device) (n : Nat) : Option Nat :=
  firstFrom 96 0 fun p => (d.passage? p).any fun r => r.door == some n

/-- Some zone of a loaded passage that names the door is in a fire state that satisfies `f` (R84). -/
def Device.doorTouches (d : Device) (n : Nat) (f : Fire → Bool) : Bool :=
  (List.range 96).any fun p => (d.passage? p).any fun r => r.door == some n && (f (d.fire r.a) || f (d.fire r.b))

/-- The built-in LIFE demand (R84). -/
def Device.lifeOf (d : Device) (n : Nat) (k : DoorKind) : Option Drive :=
  match k with
  | .egress => if d.doorTouches n Fire.isAlarm then some .unlock else none
  | .fireLeaf => if d.doorTouches n Fire.hot then some .close else none
  | .strongroom => none

/-- The built-in INTRUSION demand (R88). -/
def Device.intrusionOf (d : Device) (r : Door) : Option Drive :=
  if r.kind.lockable && ((r.nightLock && d.regime == .night) || (r.kind == .strongroom && d.zoneFlag r.zone .intruder))
  then some .lock else none

/-- The door joins the doors awaiting an early exchange (R82). -/
def Device.exchangeEarly (d : Device) (n : Nat) : Device :=
  { d with doorLine := { d.doorLine with early := Tab.put d.doorLine.early n true } }

/-- The commanded drive of door `n` is recomputed from its demands (R83): the DOOR_DRIVE report, the judgement of the
condition, and the usability change for the route engine. -/
def Device.recompute (d : Device) (n : Nat) : Device :=
  match d.door? n with
  | none => d
  | some r =>
    let x := r.demands.top r.kind
    if x.1 = r.drive ∧ x.2 = r.level then d
    else
      let d := d.putDoor n { r with drive := x.1, level := x.2 }
      if x.1 = r.drive then d.report .door n (.doorDrive x.1 x.2)
      else
        let d := ((d.exchangeEarly n).report .door n (.doorDrive x.1 x.2)).judgeDrive n r x.1
        if r.kind.lockable && d.passageNames n then
          if x.1 = .unlock then d.trigger none
          else if r.drive = .unlock then d.trigger (some (.door n))
          else d
        else d

/-- Place, change or remove demands of door `n`, and recompute the drive when they changed (R83). -/
def Device.setDemands (d : Device) (n : Nat) (m : Demands) : Device :=
  match d.door? n with
  | none => d
  | some r => if r.demands = m then d else (d.putDoor n { r with demands := m }).recompute n

/-- The LIFE and INTRUSION demands of door `n` follow the zones and the regime (R84, R88). -/
def Device.settleDoor (n : Nat) (d : Device) : Device :=
  match d.door? n with
  | none => d
  | some r => d.setDemands n { r.demands with life := d.lifeOf n r.kind, intrusion := d.intrusionOf r }

/-- The built-in demands of every loaded door (R84, R88), with the reports in ascending door number (log 12). -/
def Device.settleDoors (d : Device) : Device := forEach 32 Device.settleDoor d

/-- At the entry into AUTONOMOUS every STATION demand is removed, with the built-in demands of the same event (R87); the
reports stand in ascending door number (log 12). -/
def Device.dropStations (d : Device) : Device :=
  forEach 32 (fun n d => match d.door? n with
    | none => d
    | some r => d.setDemands n { r.demands with
        station := none, life := d.lifeOf n r.kind, intrusion := d.intrusionOf r }) d

/-! ### Statuses (R82, R92 to R99) -/

/-- A REX press on a lockable door starts the shunt (R95). -/
def Device.rexPress (d : Device) (n : Nat) : Device :=
  d.updDoor n fun r => if r.kind.lockable then { r with shunt := some (d.timer shuntSeconds) } else r

/-- A lockable door's contact opens (R93): its DOOR_CONDITION report stands before what its guarded zone reports of the event
(R72, R75; log 12). -/
def Device.lockableOpens (d : Device) (n : Nat) (r : Door) : Device :=
  let d := d.updDoor n fun r => { r with confirm := none }
  if r.drive = .unlock then (d.changeCondition n .opened).doorOpenedEvent r.zone n r.entryRoute
  else if r.shunt.isSome then
    (((d.updDoor n fun r => { r with shunt := none }).startHeld n).changeCondition n .opened).doorOpenedEvent r.zone n r.entryRoute
  else (d.changeCondition n .forced).doorForcedEvent r.zone n

/-- A lockable door's contact closes (R94). -/
def Device.lockableCloses (d : Device) (n : Nat) (r : Door) : Device :=
  let d := d.updDoor n fun r => { r with held := none }
  if r.drive = .unlock then d.changeCondition n .free else d.startLocking n

/-- A fire leaf's contact opens (R97); the order of the reports is that of a lockable door (log 12). -/
def Device.fireLeafOpens (d : Device) (n : Nat) (r : Door) : Device :=
  let d := if r.drive = .close then d.startHeld n else d
  (d.changeCondition n .opened).doorOpenedEvent r.zone n r.entryRoute

/-- A fire leaf's contact closes (R97). -/
def Device.fireLeafCloses (d : Device) (n : Nat) : Device :=
  (d.updDoor n fun r => { r with held := none }).changeCondition n .secure

/-- A change of contact of door `n`, reported as `leaf` (R93, R94, R97). -/
def Device.contactChanges (d : Device) (n : Nat) (leaf : Leaf) : Device :=
  let d := d.updDoor n fun r => { r with leaf := some leaf }
  match d.door? n with
  | none => d
  | some r =>
    match leaf with
    | .opened => if r.kind.lockable then d.lockableOpens n r else d.fireLeafOpens n r
    | .closed => if r.kind.lockable then d.lockableCloses n r else d.fireLeafCloses n

/-- A lock reported LOCKED or UNLOCKED, taken as a change of lock of door `n` (R92). -/
def Device.lockChanges (d : Device) (n : Nat) (lock : LockPos) : Device :=
  let d := d.updDoor n fun r => { r with lock := some lock }
  match d.door? n with
  | none => d
  | some r =>
    match lock, r.condition with
    | .locked, some .locking | .locked, some .lockFail =>
      (d.updDoor n fun r => { r with confirm := none }).changeCondition n .secure
    | .unlocked, some .secure => if r.drive = .lock then d.startLocking n else d
    | _, _ => d

/-- Whether a reported lock is an event for a lockable door: a difference, or LOCKED in LOCKING or LOCK_FAIL (R82). -/
def Door.lockEvent (r : Door) (lock : LockPos) : Bool :=
  r.lock != some lock || (lock == .locked && (r.condition == some .locking || r.condition == some .lockFail))

/-- The condition that a judgement afresh gives (R99). -/
def Door.afresh (r : Door) (leaf : Leaf) (lock : LockPos) : DoorCondition :=
  if r.kind.lockable then
    match r.drive, leaf, lock with
    | .unlock, .closed, _ => .free
    | .unlock, .opened, _ => .opened
    | _, .closed, .locked => .secure
    | _, .closed, .unlocked => .locking
    | _, .opened, _ => .lockWait
  else match leaf with
    | .closed => .secure
    | .opened => .opened

/-- A status judged afresh, from a silent or unjudged node (R99); DOOR_NODE stands before DOOR_CONDITION (log 12). -/
def Device.judgeAfresh (d : Device) (n : Nat) (r : Door) (leaf : Leaf) (lock : LockPos) : Device :=
  let c := r.afresh leaf lock
  let wasSilent := r.health == .silent
  let d := d.updDoor n fun r => { r with
    leaf := some leaf
    lock := if r.kind.lockable then some lock else none
    health := .ok
    condition := some c
    confirm := if c = .locking then some (d.timer confirmSeconds) else none
    held := if c = .lockWait ∨ (c = .opened ∧ r.drive = .close) then some (d.timer r.heldLimit) else none }
  let d := if wasSilent then d.report .door n (.doorNode .ok) else d
  d.report .door n (.doorCondition c)

/-- A status of door `n` is judged (R82): the watch restarts; a silent or unjudged node is judged afresh; else the REX
press, the contact and the lock are taken in this order. -/
def Device.takeStatus (d : Device) (n : Nat) (leaf : Leaf) (lock : LockPos) (rex : Bool) : Device :=
  match d.door? n with
  | none => d
  | some r =>
    let d := d.updDoor n fun r => { r with watch := some (d.timer confirmSeconds) }
    let d := if rex then d.rexPress n else d
    if r.health = .silent ∨ r.condition = none then d.judgeAfresh n r leaf lock
    else
      let d := if r.leaf = some leaf then d else d.contactChanges n leaf
      if r.kind.lockable && (d.door? n).any (·.lockEvent lock) then d.lockChanges n lock else d

/-- The node watch of door `n` expires (R98). -/
def Device.nodeSilent (d : Device) (n : Nat) : Device :=
  let d := d.updDoor n fun r => { r with health := .silent, watch := none, confirm := none, held := none }
  (d.report .door n (.doorNode .silent)).changeCondition n .nodeFault

/-! ### The door line (R82) -/

/-- The next exchange: the lowest-numbered door awaiting an early exchange, else the next loaded door of the round. -/
def Device.nextExchange (d : Device) : Device :=
  match firstFrom 32 0 fun n => Tab.getD d.doorLine.early n false && (d.door? n).isSome with
  | some n => { d with doorLine := { d.doorLine with exchange := some n, early := Tab.put d.doorLine.early n false } }
  | none =>
    match nextInRound 32 d.doorLine.round fun n => (d.door? n).isSome with
    | some n => { d with doorLine := { d.doorLine with exchange := some n, round := some n } }
    | none => { d with doorLine := { d.doorLine with exchange := none } }

end Sys2Proof.Machine
end

