-- ==== Sys2Proof/Machine/Rules.lean ====
section
/-! DEFINITION. The cause-and-effect unit (Chapter 6): the active range, the judgement of entries at the end of an event,
and what an entry's outcome does to its target. -/

namespace Sys2Proof.Machine

/-! ### Ranges and live entries (R109, R113) -/

/-- Entry `e` is a day slot (R109). -/
def Device.inDay (d : Device) (e : Nat) : Bool := e < d.daySlots

/-- Entry `e` is a night slot (R109). -/
def Device.inNight (d : Device) (e : Nat) : Bool := e < 128 && 128 ≤ e + d.nightSlots

/-- Entry `e` lies in the active range (R109). -/
def Device.inActive (d : Device) (e : Nat) : Bool :=
  match d.regime with
  | .day => d.inDay e
  | .night => d.inNight e

/-- Entry `e` is live (R113). -/
def Device.live (d : Device) (e : Nat) : Bool :=
  d.isRunning && d.inActive e && (d.rule? e).any (·.enabled)

/-! ### Judgement (R113, R114, R120) -/

/-- The outcome of a judged entry (R114). -/
def Rule.judge (r : Rule) (truth : Bool) (now : Seconds) : RuleOutcome :=
  match truth, r.outcome with
  | true, .on => .on
  | true, .delaying t => if r.delay = 0 then .on else .delaying t
  | true, .off => if r.delay = 0 then .on else .delaying ⟨now, r.delay⟩
  | false, .on => if r.latch then .on else .off
  | false, _ => .off

/-- Operand A or B of the entry has another value than at the event's start (R113). -/
def Device.inputsMoved (d0 d : Device) (r : Rule) : Bool :=
  d0.operand r.a != d.operand r.a || d0.operand r.b != d.operand r.b

/-- The outcome that entry `e` has at the end of an event that began in `d0`: OFF when it is not live; judged from OFF when
it has become live, or when every entry is judged fresh; judged when an operand changed; else as it was (R113, R120,
R124). -/
def Device.settledOutcome (d0 d : Device) (fresh : Bool) (e : Nat) (r : Rule) : RuleOutcome :=
  if !d.live e then .off
  else if fresh || !d0.live e then { r with outcome := .off }.judge (d.truth r) d.clock
  else if Device.inputsMoved d0 d r then r.judge (d.truth r) d.clock
  else r.outcome

/-! ### Targets (R85, R117) -/

/-- The combined drive of several: UNLOCK prevails over LOCK, CLOSE over HOLD_OPEN (R85). -/
def Drive.prevails : Drive → Drive → Drive
  | .unlock, _ => .unlock
  | _, .unlock => .unlock
  | .close, _ => .close
  | _, .close => .close
  | v, _ => v

/-- The target of an effect, without what is asked of it. -/
inductive Target where
  | door (n : Nat)
  | sounder (c : Nat)
  | relay (r : Nat)
  | avoid (z : Nat)
  deriving DecidableEq, Repr

def Effect.target : Effect → Target
  | .door n _ => .door n
  | .sounder c => .sounder c
  | .relay r => .relay r
  | .avoid z => .avoid z

/-- What the ON set of a target asks of it: nothing when it is empty; else, for a door, the combined drive, and for the
others the fact alone (R85, R117). -/
inductive Asked where
  | nothing
  | drive (v : Drive)
  | act
  deriving DecidableEq, Repr

/-- One more ON entry in a target's set. -/
def Asked.add (x : Asked) (e : Effect) : Asked :=
  match e, x with
  | .door _ v, .drive w => .drive (w.prevails v)
  | .door _ v, _ => .drive v
  | _, _ => .act

/-- What the ON entries of a table ask of a target. -/
def askedOf (rules : Vector (Option Rule) 128) (t : Target) : Asked :=
  rules.toList.foldl (fun x o => match o with
    | some r => if r.outcome = .on ∧ r.effect.target = t then x.add r.effect else x
    | none => x) .nothing

/-- The holder of a target takes what its ON set asks (R57, R85, R118, R119). -/
def Device.actOn (d : Device) (t : Target) (x : Asked) : Device :=
  match t with
  | .door n =>
    match d.door? n with
    | none => d
    | some r => d.setDemands n { r.demands with rule := match x with | .drive v => some v | _ => none }
  | .sounder c => d.requestSounder c (x != .nothing)
  | .relay k =>
    let on := x != .nothing
    if Tab.getD d.relays k false = on then d
    else ({ d with relays := Tab.put d.relays k on }).report .system k (.relay on)
  | .avoid z =>
    match d.zone? z with
    | none => d
    | some r =>
      let on := x != .nothing
      if r.avoid = on then d
      else ((d.putZone z { r with avoid := on }).report .route z (.zoneAvoid on)).trigger (if on then some (.zone z) else none)

/-! ### Outcomes taking effect (R117) -/

/-- What a RULE_OUTCOME report tells. -/
def Device.outcomeView (d : Device) : RuleOutcome → OutcomeView
  | .off => .off
  | .on => .on
  | .delaying t => .delaying (t.left d.clock)

/-- Entry `e` takes the outcome it has in `final`: the RULE_OUTCOME report, then, when it enters or leaves ON, its target.
The target moves at the entry that brings its ON set to what the event leaves it, so a target that stays asked is not
touched (R117, R120; log 10). -/
def Device.applyOutcome (final : Vector (Option Rule) 128) (e : Nat) (d : Device) : Device :=
  match d.rule? e, Tab.get? final e with
  | some r, some f =>
    if r.outcome = f.outcome then d
    else
      let d := (d.putRule e { r with outcome := f.outcome }).report .system e (.ruleOutcome (d.outcomeView f.outcome))
      if (r.outcome == .on) = (f.outcome == .on) then d
      else
        let t := r.effect.target
        if askedOf d.rules t = askedOf final t then d.actOn t (askedOf final t) else d
  | _, _ => d

/-- Every entry takes its outcome in `final`, in ascending physical index (R113, R117). -/
def Device.applyOutcomes (d : Device) (final : Vector (Option Rule) 128) : Device :=
  forEach 128 (Device.applyOutcome final) d

/-- The table with each loaded entry's outcome given by `f`. -/
def Device.outcomesBy (d : Device) (f : Nat → Rule → RuleOutcome) : Vector (Option Rule) 128 :=
  Tab.build 128 fun e => (d.rule? e).map fun r => { r with outcome := f e r }

/-- The rule table at the end of an event that began in `d0` (R113, R120, R124). -/
def Device.settleRules (d : Device) (d0 : Device) (fresh : Bool) : Device :=
  d.applyOutcomes (d.outcomesBy (Device.settledOutcome d0 d fresh))

/-- A latched entry that CLEAR_LATCHES takes to OFF: live, ON, and its truth false (R116). -/
def Device.latchReleased (d : Device) (e : Nat) (r : Rule) : Bool :=
  d.live e && r.latch && r.outcome == .on && !d.truth r

/-- Every entry at OFF, without reports (R123, R124). -/
def Device.rulesOff (d : Device) : Device :=
  { d with rules := Tab.map (Option.map fun r => { r with outcome := .off }) d.rules
           relays := Vector.replicate 16 false }

end Sys2Proof.Machine
end

