-- ==== Sys2Proof/Machine/Signs.lean ====
section
/-! DEFINITION. The sign driver (Chapter 9): what a sign shows, the sends on the sign line, and the groups. -/

namespace Sys2Proof.Machine

/-! ### What a sign shows (R160 to R163, R166) -/

/-- The legend outside TEST is on (R161). -/
def Device.legendOn (d : Device) (r : Sign) : Bool :=
  (match r.legend with
   | .dark => false
   | .lit => true
   | .mainsFail => d.mainsFail
   | .alarm => d.anyAlarm || d.holding) != r.invert

def litIf (b : Bool) : Elem := if b then .steady else .dark

/-- Six elements: the arrows by `arrow`, then the cross and the legend. -/
def shownOf (arrow : Nat → Elem) (cross legend : Elem) : Shown :=
  Tab.build 6 fun e => if e < 4 then arrow e else if e = 4 then cross else legend

/-- The safe default: the legend alone (R163). -/
def Device.safeDefault (d : Device) (r : Sign) : Shown := shownOf (fun _ => .dark) .dark (litIf (d.legendOn r))

/-- The pattern of a lamp test: element e follows bit 5 − e of the counter (R166). -/
def testPattern (counter : Nat) : Shown := Tab.build 6 fun e => litIf (counter.testBit (5 - e))

/-- Arrow `k` is lit by a plan entry: bound to the next passage and not blanked (R162). -/
def Sign.arrowLit (r : Sign) (e : PlanEntry) (k : Nat) : Bool :=
  match Tab.get? r.bindings k, e.next with
  | some p, some n => p == n.passage && !Tab.getD r.blank k false
  | _, _ => false

/-- What a sign in RUN shows of the published plan (R162). -/
def Device.planShown (d : Device) (r : Sign) : Shown :=
  let lit : Elem := if d.anyAlarm || d.holding then .flashing else .steady
  let legend := litIf (d.legendOn r)
  match d.zone? r.zone, d.planEntry? r.zone with
  | some z, some e =>
    if z.kind = .exit then d.safeDefault r
    else shownOf (fun k => if r.arrowLit e k then lit else .dark) (litIf (e.distance == unreachable)) legend
  | _, _ => d.safeDefault r

/-- The shown state of a loaded sign (R162, R163, R166). -/
def Device.shownFor (d : Device) (r : Sign) : Shown :=
  if d.isRunning then
    match (d.group r.group).state with
    | .test c _ => testPattern c
    | .stopped => d.safeDefault r
    | .run => if d.route.plan.isSome then d.planShown r else d.safeDefault r
  else d.safeDefault r

/-! ### The sign line (R160) -/

/-- The next send: the lowest-numbered sign awaiting an early send, else the next loaded sign of the round (R160). -/
def Device.nextSend (d : Device) : Device :=
  match firstFrom 64 0 fun n => Tab.getD d.signLine.early n false && (d.sign? n).isSome with
  | some n => { d with signLine := { d.signLine with sending := some n, early := Tab.put d.signLine.early n false } }
  | none =>
    match nextInRound 64 d.signLine.round fun n => (d.sign? n).isSome with
    | some n => { d with signLine := { d.signLine with sending := some n, round := some n } }
    | none => { d with signLine := { d.signLine with sending := none } }

/-- The sign joins the signs awaiting an early send (R160). -/
def Device.sendEarly (d : Device) (n : Nat) : Device :=
  { d with signLine := { d.signLine with early := Tab.put d.signLine.early n true } }

/-- Recompute one sign's shown state; a change joins the early sends (R160). -/
def Device.settleSign (n : Nat) (d : Device) : Device :=
  match d.sign? n with
  | none => d
  | some r => if r.shown = d.shownFor r then d else (d.putSign n { r with shown := d.shownFor r }).sendEarly n

/-- Recompute every loaded sign's shown state, at the end of an event (R160). -/
def Device.settleSigns (d : Device) : Device := forEach 64 Device.settleSign d

/-! ### Groups (R164 to R167) -/

def Group.view (g : Group) : GroupView :=
  match g.state with
  | .run => .run
  | .stopped => .stopped
  | .test _ _ => .test g.testLength

/-- The step timer of a lamp test (R165, R166). -/
def stepSeconds : Nat := 2

/-- The group is in TEST. -/
def Group.inTest (g : Group) : Bool :=
  match g.state with
  | .test _ _ => true
  | _ => false

/-- Give a group a new state with its SIGN_GROUP report (R164). -/
def Device.changeGroup (d : Device) (n : Nat) (st : GroupState) : Device :=
  let g := { d.group n with state := st }
  (d.putGroup n g).report .route n (.signGroup g.view)

/-- Every group in TEST goes to RUN, in ascending order (R167). -/
def Device.endTests (d : Device) : Device :=
  forEach 8 (fun n d => if (d.group n).inTest then d.changeGroup n .run else d) d

/-- While a zone is in VERIFY or ALARM no group is in TEST (R167). -/
def Device.settleTests (d : Device) : Device := if d.anyHot then d.endTests else d

end Sys2Proof.Machine
end

