-- ==== Sys2Proof/Machine/Events.lean ====
section
/-! DEFINITION. How an event ends: the readers of changed flags act, the rule table is judged on the settled flags, the
signs are recomputed and a free line begins its next frame. -/

namespace Sys2Proof.Machine

/-- The call flags of every zone follow the calls (R135). -/
def Device.settleAllCallFlags (d : Device) : Device := forEach 48 Device.settleCallFlags d

/-- The reactions of RUNNING to an event that began in `d0`: built-in door demands, calls, tests, the rule table, the
snapshot of a pass that the event started (R54, R84, R88, R113, R130, R135, R144, R167). -/
def Device.react (d d0 : Device) (fresh : Bool) : Device :=
  (d.settleDoors.settleCalls.settleAllCallFlags.settleTests.settleRules d0 fresh).takeSnapshot

/-- The end of an event that began in `d0`. The signs are recomputed in both operating states (R160). -/
def Device.finish (d d0 : Device) (fresh : Bool := false) : Device :=
  (if d.isRunning then d.react d0 fresh else d).settleSigns

/-- An event of the field, the timers or the blocks: while the FG640 operates and the event can occur, `f` and the end of
the event; otherwise nothing (R190, log 2). -/
def Device.event (d : Device) (occurs : Bool) (f : Device → Device) : Device :=
  if d.up && occurs then ((f d).finish d).transmit else d

/-- An event whose changes no other block reads: while the FG640 operates and the event can occur, `f`, and a free line
begins its next frame (R173); otherwise nothing (R190, log 2). -/
def Device.eventAlone (d : Device) (occurs : Bool) (f : Device → Device) : Device :=
  if d.up && occurs then (f d).transmit else d

/-- A command's outcome: the device it leaves, with the waiting commands as they are. -/
def State.after (s : State) (d : Device) : Host.Outcome State Fault Refusal := .next { s with dev := d }

end Sys2Proof.Machine
end

