-- ==== Sys2Proof/Machine/Link.lean ====
section
/-! DEFINITION. The link controller's judgement of a complete frame (R172, R173, R178): the steps that every request
passes before its own rule judges it. -/

namespace Sys2Proof.Machine

/-- What judging a request gives: the device and the reply, if one is formed now (COMMIT's is formed later, R181). -/
structure Answer where
  dev : Device
  reply : Option (Status × Content)
  deriving DecidableEq, Repr

/-- A request that is refused with a status and no content. -/
def Device.refuse (d : Device) (s : Status) : Answer := ⟨d, some (s, .none)⟩

/-- A request answered OK. -/
def Device.ok (d : Device) (c : Content := .none) : Answer := ⟨d, some (.ok, c)⟩

/-- OK, or CLAMPED when a field was clamped. -/
def Device.okOr (d : Device) (clamped : Bool) (c : Content := .none) : Answer :=
  ⟨d, some (if clamped then .clamped else .ok, c)⟩

/-- What the link controller knows of a request kind: its code, the body lengths it allows (R184), whether it is judged in
mode AUTONOMOUS (R188) and whether it is taken while a COMMIT is in flight (R172). -/
structure Gate where
  code : Byte
  lengths : List Nat
  inAutonomous : Bool := false
  duringCommit : Bool := false
  deriving DecidableEq, Repr

/-- The service station (R172). -/
def serviceStation : Nat := 15

/-- The prefix slot of a station; none for a station field that names none (R172 step 3, R178). -/
def slotOf (station : Byte) : Option Nat :=
  if station.toNat < 8 then some station.toNat
  else if station.toNat = serviceStation then some 8
  else none

/-- The reply list sends no request on while it holds this many (R173). -/
def replyCapacity : Nat := 4

/-- Whether a complete frame is discarded: replies wait, or a RESTART awaits its warm restart (R173, R191). -/
def Link.discards (l : Link) : Bool := l.restarting || replyCapacity ≤ l.replies.length

/-- The receiver hunts on after a complete frame (R171, R173). -/
def Link.hunted (l : Link) : Link := { l with rx := afterComplete l.rx }

/-- The prefix slot is emptied (R178). -/
def Link.consume (l : Link) (k : Nat) : Link := { l with slots := Tab.put l.slots k none }

/-- Steps 3 to 7 of R172. `judge` is the request's own rule; it is given the slot's count, if any (R178). -/
def Device.take (d : Device) (g : Gate) (h : Header) (body : List Byte) (judge : Option Nat → Device → Answer) : Answer :=
  match slotOf h.station with
  | none => d.refuse .badStation
  | some k =>
    if body.length ∉ g.lengths then d.refuse .badValue
    else
      let run := Tab.getD d.link.slots k none
      let d := d.updLink fun l => l.consume k
      if d.isAutonomous && !g.inAutonomous then d.refuse .autonomous else judge run d

/-- The reply of an answer joins the reply list, and a free line begins its next frame (R173). -/
def Answer.deliver (a : Answer) (code : Byte) (h : Header) : Device :=
  (match a.reply with
   | none => a.dev
   | some (st, c) => a.dev.reply code h st c).transmit

/-- A complete frame of a request kind (R172, R173): discarded without effect but on the receiver, answered BUSY, or taken
and answered. -/
def Device.request (d : Device) (g : Gate) (h : Header) (body : List Byte) (judge : Option Nat → Device → Answer) : Device :=
  if !d.up then d
  else
    let d := d.updLink Link.hunted
    if d.link.discards then d
    else if d.link.commit.isSome && !g.duringCommit then (d.refuse .busy).deliver g.code h
    else (d.take g h body judge).deliver g.code h

/-- A complete frame whose kind code names no request (R172 step 2). -/
def Device.requestUnknown (d : Device) (kind : Byte) (h : Header) : Device :=
  if !d.up then d
  else
    let d := d.updLink Link.hunted
    if d.link.discards then d
    else if d.link.commit.isSome then (d.refuse .busy).deliver kind h
    else (d.refuse .unknownKind).deliver kind h

/-- The indices of a run: `n` from `i` upward, as far as `last` (R178). -/
def runFrom (i n last : Nat) : List Nat := ((List.range n).map fun k => i + k).filter fun x => x ≤ last

/-- A request that is refused in COMMISSIONING. -/
def Device.whenRunning (d : Device) (a : Answer) : Answer := if d.isRunning then a else d.refuse .badState

/-- A commissioning request, refused in RUNNING (R179). -/
def Device.whenCommissioning (d : Device) (a : Answer) : Answer := if d.isRunning then d.refuse .badState else a

/-- Judge a body that a parser reads; a body it does not read is refused with BAD_VALUE. -/
def Device.parsed {α : Type} (d : Device) (x : Option α) (f : α → Answer) : Answer :=
  match x with
  | none => d.refuse .badValue
  | some a => f a

end Sys2Proof.Machine
end

