-- ==== Sys2Proof/Machine/Lines.lean ====
section
/-! DEFINITION. The receiver's discards (R171), the field loops (R4 to R14), the door line (R82), the sign line (R160) and
the completion of a route pass (R150). -/

namespace Sys2Proof.Machine

/-- The receiver discards the frame of these bytes and hunts again (R171). -/
def Device.discardFrame (d : Device) (timeout : Bool) (bytes : List Byte) : Device :=
  if d.up then d.updLink fun l => { l with rx := afterDiscard timeout bytes } else d

/-- The frame being received is discarded: its length is above 250 or its check does not match (R171). -/
def execFrameDiscard (bytes : List Byte) (s : State) : Host.Outcome State Fault Refusal :=
  s.after (s.dev.discardFrame false bytes)

/-- The frame being received is discarded: more than 50 ms passed between two of its bytes (R171). -/
def execFrameByteTimeout (bytes : List Byte) (s : State) : Host.Outcome State Fault Refusal :=
  s.after (s.dev.discardFrame true bytes)

/-- A loop exchange ends in an answer (R4 to R9). -/
def execLoopAnswer (l : Nat) (code : Option PointKind) (reading : Byte) (tamper : Bool) (s : State) :
    Host.Outcome State Fault Refusal :=
  s.after (s.dev.event (s.dev.loop l).exchange.isSome fun d =>
    d.completeExchange l fun a d => d.takeAnswer l a code reading.toNat tamper)

/-- A loop exchange ends in no answer (R4, R5, R10). -/
def execLoopNoAnswer (l : Nat) (s : State) : Host.Outcome State Fault Refusal :=
  s.after (s.dev.event (s.dev.loop l).exchange.isSome fun d =>
    d.completeExchange l fun a d => d.takeNoAnswer l a)

/-- The door exchange in flight ends in a status (R82). The next exchange is chosen before the reactions at the end of the
event, so a drive that they change awaits its early exchange from then on (log 38). -/
def Device.statusArrives (d : Device) (leaf : Leaf) (lock : LockPos) (rex : Bool) : Device :=
  match d.doorLine.exchange with
  | none => d
  | some n => (d.takeStatus n leaf lock rex).nextExchange

/-- A node's status arrives (R82). -/
def execDoorStatus (leaf : Leaf) (lock : LockPos) (rex : Bool) (s : State) : Host.Outcome State Fault Refusal :=
  s.after (s.dev.event s.dev.doorLine.exchange.isSome fun d => d.statusArrives leaf lock rex)

/-- A door exchange ends unanswered, without any other event (R82). -/
def execDoorExchangeUnanswered (s : State) : Host.Outcome State Fault Refusal :=
  s.after (s.dev.eventAlone s.dev.doorLine.exchange.isSome Device.nextExchange)

/-- A send on the sign line ends; the next begins (R160). -/
def execSignSendComplete (s : State) : Host.Outcome State Fault Refusal :=
  s.after (s.dev.eventAlone s.dev.signLine.sending.isSome Device.nextSend)

/-- The snapshot of the pass in flight. -/
def Engine.snapshot? : Engine → Option Snapshot
  | .computing s => s
  | .idle => none

/-- The pass in flight completes (R150). -/
def Device.passEnds (d : Device) : Device :=
  match d.route.engine.snapshot? with
  | none => d
  | some s => d.completePass s

/-- A route pass completes (R150). -/
def execRoutePassCompletion (s : State) : Host.Outcome State Fault Refusal :=
  s.after (s.dev.event s.dev.route.engine.snapshot?.isSome Device.passEnds)

end Sys2Proof.Machine
end

