-- ==== Sys2Proof/Machine/Loads.lean ====
section
/-! DEFINITION. The commissioning requests that load a record (R2, R23, R24, R41, R64, R81, R108, R109, R140, R157,
R158). -/

namespace Sys2Proof.Machine

/-! ### Zones (R41, R64) -/

/-- How many points of the zone have a health other than OK (R40, R41). -/
def Device.countFaults (d : Device) (z : Nat) : Nat :=
  (List.range 256).countP fun p => (d.point p).kind != .absent && (d.point p).zone == z && (d.point p).health != .ok

/-- The zone takes its record; FIRE_FAULT is reported when the fresh fault count changes it (R41, R55). -/
def Device.loadZone (d : Device) (z : Nat) (r : Zone) : Device :=
  let before := d.zoneFlag z .fireFault
  let n := d.countFaults z
  let d := d.putZone z { r with faultCount := n }
  if before = decide (0 < n) then d else d.report .fire z (.zoneFault (0 < n))

/-- LOAD_ZONE (R41, R64). -/
def judgeLoadZone (b : LoadZoneBody) (d : Device) : Answer :=
  if 48 ≤ b.zone then d.refuse .badIndex
  else match ZoneKind.ofCode b.kind, ArmPolicy.ofCode b.policy with
  | some kind, some policy =>
    let ack := clamp 10 120 b.ackTime
    let search := clamp 60 600 b.searchTime
    let exit := clamp 0 120 b.exitDelay
    let entry := clamp 0 60 b.entryDelay
    let r : Zone := {
      kind := kind, verify := b.verify, ackTime := ack, searchTime := search
      policy := policy, exitDelay := exit, entryDelay := entry }
    (d.loadZone b.zone r).okOr
      (ack != b.ackTime || search != b.searchTime || exit != b.exitDelay || entry != b.entryDelay)
  | _, _ => d.refuse .badValue

/-! ### Points (R2) -/

/-- The empty arithmetic part, present for SMOKE and HEAT (R1). -/
def emptyArith : PointKind → Option Arith
  | .smoke | .heat => some {}
  | _ => none

/-- The record of a LOAD_POINT of a kind (R2). -/
def LoadPointBody.record (b : LoadPointBody) (kind : PointKind) : Point :=
  if kind = .absent then {}
  else { kind := kind, zone := b.zone, cls := b.cls, enabled := b.enabled, entryRoute := b.entryRoute, arith := emptyArith kind }

/-- A point record is replaced (R2, R12, R43): its confirm entry goes, a faulty health becomes OK with its report and
leaves the old zone's count, and an idle loop begins its sweep (R5). -/
def Device.loadPoint (d : Device) (p : Nat) (r : Point) : Device :=
  let old := d.point p
  let d := (d.putPoint p r).leaveConfirm p
  let d := if old.health = .ok then d
    else (d.report (pointClass r.kind) p (.pointHealth .ok)).setFaultCount old.zone (d.faultCount old.zone - 1)
  if (d.loop (p / 64)).exchange.isNone then d.startSweep (p / 64) else d

/-- LOAD_POINT (R2); a point number is one byte, so it is never above 255. -/
def judgeLoadPoint (b : LoadPointBody) (d : Device) : Answer :=
  if 256 ≤ b.point ∨ 48 ≤ b.zone ∨ 8 ≤ b.cls then d.refuse .badIndex
  else match PointKind.ofCode b.kind with
  | none => d.refuse .badValue
  | some kind =>
    if b.entryRoute ∧ kind ≠ .contact then d.refuse .badValue
    else (d.loadPoint b.point (b.record kind)).ok

/-! ### Classes (R23, R24) -/

/-- Each field within its range (R22, R23). -/
def ClassRec.clamped (c : ClassRec) : ClassRec where
  tpDay := clamp 1 200 c.tpDay
  taDay := clamp 1 200 c.taDay
  tpNight := clamp 1 200 c.tpNight
  taNight := clamp 1 200 c.taNight
  k := clamp 1 4 c.k
  w := clamp 2 20 c.w
  l := clamp 16 160 c.l
  hf := clamp 80 180 c.hf
  hr := clamp 4 40 c.hr

/-- A point whose class took new parameters: a learnt baseline above the new limit comes back to it (R24). -/
def Point.limitBaseline (cls : Nat) (c : ClassRec) (p : Point) : Point :=
  if p.kind = .smoke ∧ p.cls = cls then
    { p with arith := p.arith.map fun a => if a.learnt then { a with baseline := min a.baseline c.baselineLimit } else a }
  else p

/-- A class record is replaced (R23, R24). -/
def Device.loadClass (d : Device) (k : Nat) (c : ClassRec) : Device :=
  { d with classes := Tab.put d.classes k (some c), points := Tab.map (Point.limitBaseline k c) d.points }

/-- LOAD_CLASS (R23). -/
def judgeLoadClass (b : LoadClassBody) (d : Device) : Answer :=
  if 8 ≤ b.cls then d.refuse .badIndex
  else
    let c := b.params.clamped
    if c.taDay ≤ c.tpDay ∨ c.taNight ≤ c.tpNight then d.refuse .badValue
    else (d.loadClass b.cls c).okOr (c != b.params)

/-! ### Doors (R81) -/

/-- The record of a LOAD_DOOR: the drive and level are kept from an old record of the same sort (R81). -/
def Device.newDoor (d : Device) (b : LoadDoorBody) (kind : DoorKind) (limit : Nat) : Door :=
  let r : Door := {
    kind := kind, zone := b.zone, nightLock := b.nightLock, entryRoute := b.entryRoute, heldLimit := limit
    drive := kind.rest, watch := some (d.timer confirmSeconds) }
  match d.door? b.door with
  | none => r
  | some old => if old.kind.lockable = kind.lockable then { r with drive := old.drive, level := old.level } else r

/-- Whether a LOAD_DOOR changes the commanded drive, so that the door awaits an early exchange (R82); for a newly loaded
door a free value decides (log 5). -/
def Device.loadChangesDrive (d : Device) (n : Nat) (r : Door) : Bool :=
  match d.door? n with
  | none => Config.newDoorJoinsEarly
  | some old => old.drive != r.drive

/-- A door record is replaced; an idle door line begins its exchanges (R81, R82, R103). The condition that becomes absent and
the health that becomes OK queue no report (log 39). -/
def Device.loadDoor (d : Device) (n : Nat) (r : Door) : Device :=
  let early := d.loadChangesDrive n r
  let d := d.putDoor n r
  let d := if early then d.exchangeEarly n else d
  if d.doorLine.exchange.isNone then d.nextExchange else d

/-- LOAD_DOOR (R81). -/
def judgeLoadDoor (b : LoadDoorBody) (d : Device) : Answer :=
  if 32 ≤ b.door ∨ 48 ≤ b.zone then d.refuse .badIndex
  else match DoorKind.ofCode b.kind with
  | none => d.refuse .badValue
  | some kind =>
    if b.nightLock ∧ kind = .fireLeaf then d.refuse .badValue
    else
      let limit := clamp 5 300 b.heldLimit
      (d.loadDoor b.door (d.newDoor b kind limit)).okOr (limit != b.heldLimit)

/-! ### Passages (R140) -/

/-- The byte that marks an absent door or binding (R184). -/
def absentMark : Nat := 0xFF

/-- A reference that may be absent; none when it lies outside a table of `n` (R140, R157). -/
def optionalRef (x n : Nat) : Option (Option Nat) :=
  if x = absentMark then some none else if x < n then some (some x) else none

/-- LOAD_PASSAGE (R140). A present byte other than 0 and 1 is an unknown code (log 23). -/
def judgeLoadPassage (b : LoadPassageBody) (d : Device) : Answer :=
  if 96 ≤ b.passage then d.refuse .badIndex
  else if b.present = 0 then Device.ok { d with passages := Tab.put d.passages b.passage none }
  else if b.present ≠ 1 then d.refuse .badValue
  else match optionalRef b.door 32 with
  | none => d.refuse .badIndex
  | some door =>
    if 48 ≤ b.a ∨ 48 ≤ b.b then d.refuse .badIndex
    else if b.a = b.b then d.refuse .badValue
    else match Way.ofCode b.way with
    | none => d.refuse .badValue
    | some way =>
      let cost := clamp 1 250 b.cost
      let p : Passage := { a := b.a, b := b.b, cost := cost, way := way, door := door }
      Device.okOr { d with passages := Tab.put d.passages b.passage (some p) } (cost != b.cost)

/-! ### Signs and groups (R157, R158) -/

/-- The four bindings; none when one names a passage outside the table (R157). -/
def bindingsOf (v : Vector Nat 4) : Option (Vector (Option Nat) 4) :=
  match optionalRef v[0] 96, optionalRef v[1] 96, optionalRef v[2] 96, optionalRef v[3] 96 with
  | some a, some b, some c, some d => some #v[a, b, c, d]
  | _, _, _, _ => none

/-- A sign record is loaded: it shows the safe default; the sign joins the early sends when its shown state changed, by a
free value for a newly loaded sign (R157, R160, log 5); an idle sign line begins its sends. -/
def Device.loadSign (d : Device) (n : Nat) (r : Sign) : Device :=
  let r := { r with shown := d.safeDefault r }
  let early := match d.sign? n with
    | none => Config.newSignJoinsEarly
    | some old => old.shown != r.shown
  let d := d.putSign n r
  let d := if early then d.sendEarly n else d
  if d.signLine.sending.isNone then d.nextSend else d

/-- A sign record becomes unloaded; nothing more is sent to its address (R156, R157), but a send to it that is in flight runs
to its end (log 42). -/
def Device.unloadSign (d : Device) (n : Nat) : Device :=
  { d with signs := Tab.put d.signs n none, signLine := { d.signLine with early := Tab.put d.signLine.early n false } }

/-- LOAD_SIGN (R157). A present byte other than 0 and 1 is an unknown code (log 23). -/
def judgeLoadSign (b : LoadSignBody) (d : Device) : Answer :=
  if 64 ≤ b.sign then d.refuse .badIndex
  else if b.present = 0 then (d.unloadSign b.sign).ok
  else if b.present ≠ 1 then d.refuse .badValue
  else match bindingsOf b.bindings with
  | none => d.refuse .badIndex
  | some bindings =>
    if 48 ≤ b.zone ∨ 8 ≤ b.group then d.refuse .badIndex
    else match LegendSource.ofCode b.legend with
    | none => d.refuse .badValue
    | some legend =>
      (d.loadSign b.sign {
        zone := b.zone, group := b.group, bindings := bindings, legend := legend, invert := b.invert
        shown := Vector.replicate 6 .dark }).ok

/-- LOAD_GROUP (R158). -/
def judgeLoadGroup (g n : Nat) (d : Device) : Answer :=
  if 8 ≤ g then d.refuse .badIndex
  else
    let c := clamp 1 64 n
    (d.putGroup g { d.group g with testLength := c }).okOr (c != n)

/-! ### Rules and limits (R108, R109) -/

/-- LOAD_RULE (R108). -/
def judgeLoadRule (b : LoadRuleBody) (d : Device) : Answer :=
  if 128 ≤ b.entry then d.refuse .badIndex
  else if !operandZoneOk b.zoneA || !operandZoneOk b.zoneB || !effectTargetOk b.effect b.target then d.refuse .badIndex
  else match Operand.ofBytes b.zoneA b.flagA, Operand.ofBytes b.zoneB b.flagB, Combine.ofCode b.fn,
      Effect.ofBytes b.effect b.target b.drive with
  | some x, some y, some fn, some effect =>
    let delay := min 600 b.delay
    let r : Rule := { enabled := b.enabled, latch := b.latch, a := x, b := y, fn := fn, delay := delay, effect := effect }
    (d.putRule b.entry r).okOr (delay != b.delay)
  | _, _, _, _ => d.refuse .badValue

/-- LOAD_LIMITS (R109). -/
def judgeLoadLimits (dn nn : Nat) (d : Device) : Answer :=
  let x := min 128 dn
  let y := min 128 nn
  Device.okOr { d with daySlots := x, nightSlots := y } (x != dn || y != nn)

/-! ### The rows -/

/-- LOAD_ZONE. -/
def execLoadZone (h : Header) (body : List Byte) (s : State) : Host.Outcome State Fault Refusal :=
  s.after (s.dev.request { code := 0x10, lengths := [9] } h body fun _ d =>
    d.whenCommissioning (d.parsed (LoadZoneBody.parse body) fun b => judgeLoadZone b d))

/-- LOAD_POINT. -/
def execLoadPoint (h : Header) (body : List Byte) (s : State) : Host.Outcome State Fault Refusal :=
  s.after (s.dev.request { code := 0x11, lengths := [5] } h body fun _ d =>
    d.whenCommissioning (d.parsed (LoadPointBody.parse body) fun b => judgeLoadPoint b d))

/-- LOAD_CLASS. -/
def execLoadClass (h : Header) (body : List Byte) (s : State) : Host.Outcome State Fault Refusal :=
  s.after (s.dev.request { code := 0x12, lengths := [11] } h body fun _ d =>
    d.whenCommissioning (d.parsed (LoadClassBody.parse body) fun b => judgeLoadClass b d))

/-- LOAD_DOOR. -/
def execLoadDoor (h : Header) (body : List Byte) (s : State) : Host.Outcome State Fault Refusal :=
  s.after (s.dev.request { code := 0x13, lengths := [6] } h body fun _ d =>
    d.whenCommissioning (d.parsed (LoadDoorBody.parse body) fun b => judgeLoadDoor b d))

/-- LOAD_PASSAGE. -/
def execLoadPassage (h : Header) (body : List Byte) (s : State) : Host.Outcome State Fault Refusal :=
  s.after (s.dev.request { code := 0x14, lengths := [7] } h body fun _ d =>
    d.whenCommissioning (d.parsed (LoadPassageBody.parse body) fun b => judgeLoadPassage b d))

/-- LOAD_SIGN. -/
def execLoadSign (h : Header) (body : List Byte) (s : State) : Host.Outcome State Fault Refusal :=
  s.after (s.dev.request { code := 0x15, lengths := [10] } h body fun _ d =>
    d.whenCommissioning (d.parsed (LoadSignBody.parse body) fun b => judgeLoadSign b d))

/-- LOAD_GROUP. -/
def execLoadGroup (h : Header) (body : List Byte) (s : State) : Host.Outcome State Fault Refusal :=
  s.after (s.dev.request { code := 0x16, lengths := [2] } h body fun _ d =>
    d.whenCommissioning (d.parsed (twoBytes body) fun b => judgeLoadGroup b.1 b.2 d))

/-- LOAD_RULE. -/
def execLoadRule (h : Header) (body : List Byte) (s : State) : Host.Outcome State Fault Refusal :=
  s.after (s.dev.request { code := 0x17, lengths := [12] } h body fun _ d =>
    d.whenCommissioning (d.parsed (LoadRuleBody.parse body) fun b => judgeLoadRule b d))

/-- LOAD_LIMITS. -/
def execLoadLimits (h : Header) (body : List Byte) (s : State) : Host.Outcome State Fault Refusal :=
  s.after (s.dev.request { code := 0x18, lengths := [2] } h body fun _ d =>
    d.whenCommissioning (d.parsed (twoBytes body) fun b => judgeLoadLimits b.1 b.2 d))

end Sys2Proof.Machine
end

