-- ==== Sys2Proof/Machine/Operating.lean ====
section
/-! DEFINITION. The operating requests: regime and latches (R105, R116), fire (R50 to R52, R58, R59), guarding (R69, R70,
R76), points (R16, R17), doors (R86, R89), calls (R132 to R134) and sign groups (R164, R165). -/

namespace Sys2Proof.Machine

/-- A guard-identity request, refused from the service station (R50, R132). -/
def Device.fromGuard (d : Device) (h : Header) (a : Nat → Answer) : Answer :=
  if h.station.toNat = serviceStation then d.refuse .badStation else a h.station.toNat

/-! ### Regime and latches (R105, R106, R116) -/

/-- Every confirm count becomes 0 and every clear mark no (R39). -/
def Device.resetConfirms (d : Device) : Device := { d with points := Tab.map Point.noConfirm d.points }

/-- A change of regime, up to the reactions at the end of the event (R106). At the change to NIGHT the ZONE_FIRE reports of
R53 stand before the ZONE_SECURITY reports of R67 (log 12). -/
def Device.changeRegime (d : Device) (r : Regime) : Device :=
  let d := (({ d with regime := r }).report .system 0 (.regime r)).resetConfirms
  if d.isRunning then
    match r with
    | .night => (d.promoteVerify .night).nightSetting
    | .day => d.dayUnsetting
  else d

/-- SET_REGIME (R105). -/
def judgeSetRegime (code : Nat) (d : Device) : Answer :=
  match Regime.ofCode code with
  | none => d.refuse .badValue
  | some r => if r = d.regime then d.ok else ((d.changeRegime r).finish d).ok (.regime r)

/-- The rule table that CLEAR_LATCHES leaves (R116). -/
def Device.latchesCleared (d : Device) : Vector (Option Rule) 128 :=
  d.outcomesBy fun e r => if d.latchReleased e r then .off else r.outcome

/-- How many entries CLEAR_LATCHES takes to OFF (R116). -/
def Device.countReleased (d : Device) : Nat :=
  (List.range 128).countP fun e => (d.rule? e).any fun r => d.latchReleased e r

/-- CLEAR_LATCHES (R116). -/
def judgeClearLatches (d : Device) : Answer :=
  d.whenRunning (((d.applyOutcomes d.latchesCleared).finish d).ok (.count d.countReleased))

/-! ### Fire (R50 to R52, R58, R59) -/

/-- The remaining fire timer of a zone. -/
def Device.fireLeft (d : Device) (z : Nat) : Option Nat := d.left (d.fire z).timer?

/-- The reply of ACK_ALARM, CANCEL_VERIFY and RESET_FIRE: the zone's new state, with its timer in VERIFY. -/
def Device.okFire (d : Device) (z : Nat) : Answer := d.ok (.fire (d.fire z).view (d.fireLeft z))

/-- ACK_ALARM (R50). -/
def judgeAckAlarm (station z : Nat) (d : Device) : Answer :=
  match d.zone? z with
  | none => d.refuse .badIndex
  | some r =>
    match r.fire with
    | .verify .ackWait _ origin =>
      ((d.changeFire z (.verify (.search station) (d.timer r.searchTime) origin)).finish d).okFire z
    | _ => d.refuse .badState

/-- CANCEL_VERIFY (R51). -/
def judgeCancelVerify (z : Nat) (d : Device) : Answer :=
  match d.zone? z with
  | none => d.refuse .badIndex
  | some r =>
    if !r.fire.isVerify then d.refuse .badState
    else if 0 < r.activeCount then d.refuse .stillActive
    else ((d.changeFire z r.restFire).finish d).okFire z

/-- RESET_FIRE (R52). -/
def judgeResetFire (z : Nat) (d : Device) : Answer :=
  match d.zone? z with
  | none => d.refuse .badIndex
  | some r =>
    if !r.fire.isAlarm then d.refuse .badState
    else if 0 < r.activeCount then d.refuse .stillActive
    else ((d.changeFire z r.restFire).finish d).okFire z

/-- SILENCE (R58). -/
def judgeSilence (d : Device) : Answer :=
  d.whenRunning ((d.shiftSounders .sounding .silenced).ok (.count (d.soundersIn .sounding)))

/-- RESOUND (R59). -/
def judgeResound (d : Device) : Answer :=
  d.whenRunning (d.resoundAll.ok (.count (d.soundersIn .silenced)))

/-! ### Guarding (R69, R70, R76) -/

/-- ARM_ZONE on zone `z` would begin its setting: loaded, policy not NEVER, OFF or UNSET_FAULT (R69). -/
def Device.armable (d : Device) (z : Nat) : Bool :=
  (d.zone? z).any fun r => r.policy != .never && r.security.isUnset

/-- A run of ARM_ZONE (R69). -/
def Device.armRun (d : Device) (run : List Nat) : Device := forList run (fun z d => if d.armable z then d.beginSetting z else d) d

/-- ARM_ZONE (R69). -/
def judgeArmZone (run : Option Nat) (z : Nat) (d : Device) : Answer :=
  match run with
  | some n =>
    if 48 ≤ z then d.refuse .badIndex
    else
      let l := runFrom z n 47
      ((d.armRun l).finish d).ok (.count (l.countP d.armable))
  | none =>
    match d.zone? z with
    | none => d.refuse .badIndex
    | some r => if r.policy = .never then d.refuse .badState else ((d.armRun [z]).finish d).ok

/-- DISARM_ZONE takes zone `z` to OFF: loaded, neither OFF nor INTRUDER (R70). -/
def Device.disarmable (d : Device) (z : Nat) : Bool :=
  (d.zone? z).any fun r => !r.security.isIntruder && r.security != .off

/-- A run of DISARM_ZONE (R70). -/
def Device.disarmRun (d : Device) (run : List Nat) : Device :=
  forList run (fun z d => if d.disarmable z then d.changeSecurity z .off else d) d

/-- DISARM_ZONE (R70). -/
def judgeDisarmZone (run : Option Nat) (z : Nat) (d : Device) : Answer :=
  match run with
  | some n =>
    if 48 ≤ z then d.refuse .badIndex
    else
      let l := runFrom z n 47
      ((d.disarmRun l).finish d).ok (.count (l.countP d.disarmable))
  | none =>
    match d.zone? z with
    | none => d.refuse .badIndex
    | some r => if r.security.isIntruder then d.refuse .stillActive else ((d.disarmRun [z]).finish d).ok

/-- Where RESET_INTRUDER takes a zone: SET if its policy is active, else OFF (R76). -/
def Zone.afterIntruder (r : Zone) (regime : Regime) : Security := if r.policy.activeIn regime then .armed else .off

/-- RESET_INTRUDER (R76). -/
def judgeResetIntruder (z : Nat) (d : Device) : Answer :=
  match d.zone? z with
  | none => d.refuse .badIndex
  | some r =>
    if !r.security.isIntruder then d.refuse .badState
    else if 0 < r.openCases then d.refuse .stillActive
    else
      let new := r.afterIntruder d.regime
      ((d.changeSecurity z new).finish d).ok (.security new.view)

/-! ### Points (R16, R17) -/

/-- Point `p` is configured and its enabled flag is `on`. -/
def Device.pointIs (d : Device) (on : Bool) (p : Nat) : Bool := (d.point p).kind != .absent && (d.point p).enabled == on

/-- A run of DISABLE_POINT (R16): point after point, ascending, each with its POINT_CONDITION report and then what its zone
reports of it (log 12). -/
def Device.disableRun (d : Device) (run : List Nat) : Device :=
  forList run (fun p d => if d.pointIs true p then d.disablePoint p else d) d

/-- A run of ENABLE_POINT (R17). -/
def Device.enableRun (d : Device) (run : List Nat) : Device :=
  forList run (fun p d => if d.pointIs false p then d.enablePoint p else d) d

/-- DISABLE_POINT and ENABLE_POINT up to what they do to a run: `on` is the flag of the points they change (R16, R17). -/
def judgePoints (on : Bool) (act : List Nat → Device) (run : Option Nat) (p : Nat) (d : Device) : Answer :=
  if 256 ≤ p then d.refuse .badIndex
  else match run with
  | some n => (act (runFrom p n 255)).ok (.count ((runFrom p n 255).countP (d.pointIs on)))
  | none => if (d.point p).kind = .absent then d.refuse .badState else (act [p]).ok

/-- DISABLE_POINT (R16): the conditions withdrawn reach their readers in the event. -/
def judgeDisablePoint (run : Option Nat) (p : Nat) (d : Device) : Answer :=
  judgePoints true (fun l => (d.disableRun l).finish d) run p d

/-- ENABLE_POINT (R17): nothing that another block reads changes. -/
def judgeEnablePoint (run : Option Nat) (p : Nat) (d : Device) : Answer := judgePoints false d.enableRun run p d

/-! ### Doors (R86, R89) -/

/-- An action fits a door kind (R86, R89). -/
def DoorAction.fits (a : DoorAction) (k : DoorKind) : Bool :=
  match a with
  | .drive v => k.fits v
  | .remove => true

/-- The longest duration of a STATION demand (R86). -/
def guardMax : Nat := 3600

/-- The STATION demand that an action gives (R86). -/
def Device.stationDemand (d : Device) (station duration : Nat) : DoorAction → Option StationDemand
  | .drive v => some {
      drive := v, station := station
      timer := if duration = 0 then none else some (d.timer (min guardMax duration)) }
  | .remove => none

/-- The door is loaded and the action fits its kind (R86, R89). -/
def Device.takesAction (d : Device) (a : DoorAction) (n : Nat) : Bool := (d.door? n).any fun r => a.fits r.kind

/-- DOOR_GUARD on one door that takes the action (R86). -/
def Device.guardDoor (d : Device) (station duration : Nat) (a : DoorAction) (n : Nat) : Device :=
  match d.door? n with
  | none => d
  | some r => d.setDemands n { r.demands with station := d.stationDemand station duration a }

/-- DOOR_GUARD places, replaces or removes a STATION demand of door `n` (R86). -/
def Device.guardCounts (d : Device) (a : DoorAction) (n : Nat) : Bool :=
  d.takesAction a n && (a != .remove || (d.door? n).any fun r => r.demands.station.isSome)

/-- A run of DOOR_GUARD (R86). -/
def Device.guardRun (d : Device) (station duration : Nat) (a : DoorAction) (run : List Nat) : Device :=
  forList run (fun n d => if d.takesAction a n then d.guardDoor station duration a n else d) d

/-- The duration of a DOOR_GUARD is clamped at a door that takes its drive (R86, log 24). -/
def Device.guardClamps (d : Device) (duration : Nat) (a : DoorAction) (run : List Nat) : Bool :=
  guardMax < duration && a != .remove && run.any (d.takesAction a)

/-- DOOR_GUARD (R86). -/
def judgeDoorGuard (run : Option Nat) (station : Nat) (b : DoorGuardBody) (d : Device) : Answer :=
  if 32 ≤ b.door then d.refuse .badIndex
  else if run.isNone ∧ (d.door? b.door).isNone then d.refuse .badIndex
  else match DoorAction.ofCode b.action with
  | none => d.refuse .badValue
  | some a =>
    match run with
    | some n =>
      let l := runFrom b.door n 31
      ((d.guardRun station b.duration a l).finish d).okOr (d.guardClamps b.duration a l) (.count (l.countP (d.guardCounts a)))
    | none =>
      if !d.takesAction a b.door then d.refuse .badAction
      else ((d.guardRun station b.duration a [b.door]).finish d).okOr (d.guardClamps b.duration a [b.door])

/-- The TIMETABLE demand that an action gives (R89). -/
def DoorAction.demand : DoorAction → Option Drive
  | .drive v => some v
  | .remove => none

/-- SCHEDULE changes the TIMETABLE demand of door `n` (R89). -/
def Device.scheduleChanges (d : Device) (a : DoorAction) (n : Nat) : Bool :=
  d.takesAction a n && (d.door? n).any fun r => r.demands.timetable != a.demand

/-- SCHEDULE on one door that takes the action (R89). -/
def Device.scheduleDoor (d : Device) (a : DoorAction) (n : Nat) : Device :=
  match d.door? n with
  | none => d
  | some r => d.setDemands n { r.demands with timetable := a.demand }

/-- A run of SCHEDULE (R89). -/
def Device.scheduleRun (d : Device) (a : DoorAction) (run : List Nat) : Device :=
  forList run (fun n d => if d.takesAction a n then d.scheduleDoor a n else d) d

/-- SCHEDULE (R89). -/
def judgeSchedule (run : Option Nat) (door action : Nat) (d : Device) : Answer :=
  if 32 ≤ door then d.refuse .badIndex
  else if run.isNone ∧ (d.door? door).isNone then d.refuse .badIndex
  else match DoorAction.ofCode action with
  | none => d.refuse .badValue
  | some a =>
    match run with
    | some n =>
      let l := runFrom door n 31
      ((d.scheduleRun a l).finish d).ok (.count (l.countP (d.scheduleChanges a)))
    | none =>
      if !d.takesAction a door then d.refuse .badAction
      else ((d.scheduleRun a [door]).finish d).ok

/-! ### Calls (R132 to R134) -/

/-- The opening steps of the guard requests on calls (section 7.5); AUTONOMOUS is step 6 of R172. -/
def Device.onCall (d : Device) (h : Header) (number : Nat) (f : Nat → Call → Answer) : Answer :=
  d.whenRunning (d.fromGuard h fun station =>
    match d.board.find? number with
    | none => d.refuse .badIndex
    | some c => f station c)

/-- The reply of CLAIM_CALL and RELEASE_CALL (section 7.5). -/
def Call.told (c : Call) : Content := .call c.number c.point c.state.view (some c.priority) none

/-- CLAIM_CALL (R132). -/
def judgeClaimCall (station : Nat) (c : Call) (d : Device) : Answer :=
  match c.state with
  | .claimed owner => if owner = station then d.ok c.told else ⟨d, some (.heldElsewhere, .owner owner)⟩
  | _ =>
    if claimLimit ≤ d.board.owned station then d.refuse .limit
    else
      let c := { c with state := .claimed station }
      ((d.changeCall c).finish d).ok c.told

/-- RELEASE_CALL (R134). -/
def judgeReleaseCall (station : Nat) (c : Call) (d : Device) : Answer :=
  if c.state ≠ .claimed station then d.refuse .notOwner
  else
    let c := { c with state := .waiting d.clock }
    ((d.changeCall c).finish d).ok c.told

/-- The call leaves the queue (R133). -/
def Device.removeCall (d : Device) (c : Call) : Device :=
  ({ d with board := { d.board with calls := d.board.calls.filter fun x => x.number != c.number } }).reportCall c .closed

/-- CLOSE_CALL (R133). -/
def judgeCloseCall (station : Nat) (c : Call) (d : Device) : Answer :=
  if c.state ≠ .claimed station then d.refuse .notOwner
  else ((d.removeCall c).promoteWaiting.finish d).ok (.call c.number c.point .closed none d.board.waitingPoints.head?)

/-! ### Sign groups (R164, R165) -/

/-- A group takes RUN or STOPPED (R164). -/
def Device.toGroup (d : Device) (g : Nat) (st : GroupState) : Answer :=
  d.whenRunning (
    if 8 ≤ g then d.refuse .badIndex
    else
      let d' := if (d.group g).state = st then d else (d.changeGroup g st).settleSigns
      d'.ok (.group (d'.group g).view))

/-- GROUP_STOP (R164). -/
def judgeGroupStop (g : Nat) (d : Device) : Answer := d.toGroup g .stopped

/-- GROUP_RUN (R164). -/
def judgeGroupRun (g : Nat) (d : Device) : Answer := d.toGroup g .run

/-- TEST_START (R165). -/
def judgeTestStart (g : Nat) (d : Device) : Answer :=
  d.whenRunning (
    if 8 ≤ g then d.refuse .badIndex
    else if (d.group g).state ≠ .stopped then d.refuse .badState
    else if d.anyHot then d.refuse .stillActive
    else ((d.changeGroup g (.test 0 (d.timer stepSeconds))).settleSigns).ok (.testLength (d.group g).testLength))

/-! ### The rows -/

/-- SET_REGIME. -/
def execSetRegime (h : Header) (body : List Byte) (s : State) : Host.Outcome State Fault Refusal :=
  s.after (s.dev.request { code := 0x20, lengths := [1] } h body fun _ d =>
    d.parsed (oneByte body) fun code => judgeSetRegime code d)

/-- CLEAR_LATCHES. -/
def execClearLatches (h : Header) (body : List Byte) (s : State) : Host.Outcome State Fault Refusal :=
  s.after (s.dev.request { code := 0x21, lengths := [0] } h body fun _ d => judgeClearLatches d)

/-- ACK_ALARM. -/
def execAckAlarm (h : Header) (body : List Byte) (s : State) : Host.Outcome State Fault Refusal :=
  s.after (s.dev.request { code := 0x22, lengths := [1] } h body fun _ d =>
    d.whenRunning (d.fromGuard h fun station => d.parsed (oneByte body) fun z => judgeAckAlarm station z d))

/-- CANCEL_VERIFY. -/
def execCancelVerify (h : Header) (body : List Byte) (s : State) : Host.Outcome State Fault Refusal :=
  s.after (s.dev.request { code := 0x23, lengths := [1] } h body fun _ d =>
    d.whenRunning (d.fromGuard h fun _ => d.parsed (oneByte body) fun z => judgeCancelVerify z d))

/-- RESET_FIRE. -/
def execResetFire (h : Header) (body : List Byte) (s : State) : Host.Outcome State Fault Refusal :=
  s.after (s.dev.request { code := 0x24, lengths := [1] } h body fun _ d =>
    d.whenRunning (d.parsed (oneByte body) fun z => judgeResetFire z d))

/-- SILENCE. -/
def execSilence (h : Header) (body : List Byte) (s : State) : Host.Outcome State Fault Refusal :=
  s.after (s.dev.request { code := 0x25, lengths := [0] } h body fun _ d => judgeSilence d)

/-- RESOUND. -/
def execResound (h : Header) (body : List Byte) (s : State) : Host.Outcome State Fault Refusal :=
  s.after (s.dev.request { code := 0x26, lengths := [0] } h body fun _ d => judgeResound d)

/-- ARM_ZONE. -/
def execArmZone (h : Header) (body : List Byte) (s : State) : Host.Outcome State Fault Refusal :=
  s.after (s.dev.request { code := 0x27, lengths := [1] } h body fun run d =>
    d.whenRunning (d.parsed (oneByte body) fun z => judgeArmZone run z d))

/-- DISARM_ZONE. -/
def execDisarmZone (h : Header) (body : List Byte) (s : State) : Host.Outcome State Fault Refusal :=
  s.after (s.dev.request { code := 0x28, lengths := [1] } h body fun run d =>
    d.whenRunning (d.parsed (oneByte body) fun z => judgeDisarmZone run z d))

/-- RESET_INTRUDER. -/
def execResetIntruder (h : Header) (body : List Byte) (s : State) : Host.Outcome State Fault Refusal :=
  s.after (s.dev.request { code := 0x29, lengths := [1] } h body fun _ d =>
    d.whenRunning (d.parsed (oneByte body) fun z => judgeResetIntruder z d))

/-- DISABLE_POINT, accepted in both operating states. -/
def execDisablePoint (h : Header) (body : List Byte) (s : State) : Host.Outcome State Fault Refusal :=
  s.after (s.dev.request { code := 0x2A, lengths := [1] } h body fun run d =>
    d.parsed (oneByte body) fun p => judgeDisablePoint run p d)

/-- ENABLE_POINT, accepted in both operating states. -/
def execEnablePoint (h : Header) (body : List Byte) (s : State) : Host.Outcome State Fault Refusal :=
  s.after (s.dev.request { code := 0x2B, lengths := [1] } h body fun run d =>
    d.parsed (oneByte body) fun p => judgeEnablePoint run p d)

/-- DOOR_GUARD. -/
def execDoorGuard (h : Header) (body : List Byte) (s : State) : Host.Outcome State Fault Refusal :=
  s.after (s.dev.request { code := 0x2C, lengths := [4] } h body fun run d =>
    d.whenRunning (d.parsed (DoorGuardBody.parse body) fun b => judgeDoorGuard run h.station.toNat b d))

/-- SCHEDULE. -/
def execSchedule (h : Header) (body : List Byte) (s : State) : Host.Outcome State Fault Refusal :=
  s.after (s.dev.request { code := 0x2D, lengths := [2] } h body fun run d =>
    d.whenRunning (d.parsed (twoBytes body) fun b => judgeSchedule run b.1 b.2 d))

/-- CLAIM_CALL. -/
def execClaimCall (h : Header) (body : List Byte) (s : State) : Host.Outcome State Fault Refusal :=
  s.after (s.dev.request { code := 0x2E, lengths := [1] } h body fun _ d =>
    d.parsed (oneByte body) fun n => d.onCall h n fun station c => judgeClaimCall station c d)

/-- RELEASE_CALL. -/
def execReleaseCall (h : Header) (body : List Byte) (s : State) : Host.Outcome State Fault Refusal :=
  s.after (s.dev.request { code := 0x2F, lengths := [1] } h body fun _ d =>
    d.parsed (oneByte body) fun n => d.onCall h n fun station c => judgeReleaseCall station c d)

/-- CLOSE_CALL. -/
def execCloseCall (h : Header) (body : List Byte) (s : State) : Host.Outcome State Fault Refusal :=
  s.after (s.dev.request { code := 0x30, lengths := [1] } h body fun _ d =>
    d.parsed (oneByte body) fun n => d.onCall h n fun station c => judgeCloseCall station c d)

/-- GROUP_STOP. -/
def execGroupStop (h : Header) (body : List Byte) (s : State) : Host.Outcome State Fault Refusal :=
  s.after (s.dev.request { code := 0x31, lengths := [1] } h body fun _ d => d.parsed (oneByte body) fun g => judgeGroupStop g d)

/-- GROUP_RUN. -/
def execGroupRun (h : Header) (body : List Byte) (s : State) : Host.Outcome State Fault Refusal :=
  s.after (s.dev.request { code := 0x32, lengths := [1] } h body fun _ d => d.parsed (oneByte body) fun g => judgeGroupRun g d)

/-- TEST_START. -/
def execTestStart (h : Header) (body : List Byte) (s : State) : Host.Outcome State Fault Refusal :=
  s.after (s.dev.request { code := 0x33, lengths := [1] } h body fun _ d => d.parsed (oneByte body) fun g => judgeTestStart g d)

end Sys2Proof.Machine
end

