-- ==== Sys2Proof/Machine/Queries.lean ====
section
/-! DEFINITION. The queries (R18, R60, R101, R121, R137, R153, R168, R183, R192). -/

namespace Sys2Proof.Machine

/-- QUERY's gate: any of the lengths 1, 2 and 3, in both modes; a length that does not fit its code is refused by the
query's own rule (R183, R184). -/
def queryGate : Gate := { code := 0x08, lengths := [1, 2, 3], inAutonomous := true }

/-- What QUERY POINT adds by the point's kind (R18); an absent arithmetic part tells the empty one's values. -/
def Point.part (r : Point) : PointPart :=
  let a := r.arith.getD {}
  match r.kind with
  | .smoke => .smoke a.baseline a.learnt a.readings a.confirm
  | .heat => .heat a.ring.length a.ring a.confirm
  | _ => .plain

/-- The record as QUERY POINT gives it (R18). -/
def Point.row (r : Point) : PointRow where
  kind := r.kind
  zone := r.zone
  cls := r.cls
  enabled := r.enabled
  entryRoute := r.entryRoute
  condition := r.condition
  health := r.health
  held := r.held
  misses := r.misses
  part := r.part

/-- QUERY POINT (R18); a point number is one byte, so it is never above 255. -/
def judgeQueryPoint (p : Nat) (d : Device) : Answer :=
  if 256 ≤ p then d.refuse .badIndex else d.ok (.point (d.point p).row)

/-- QUERY ZONE (R60); of an unloaded zone the ten flags, all false, and nothing else beside the loaded flag (log 47). -/
def judgeQueryZone (z : Nat) (d : Device) : Answer :=
  if 48 ≤ z then d.refuse .badIndex
  else
    let r := d.zone? z
    d.ok (.zone r (d.zoneFlags z) (d.left (r.bind fun r => r.fire.timer?)) (d.left (r.bind fun r => r.security.timer?)))

/-- What is left of a running 3.0 s timer, in tenths, by the `k`-th free value from now (log 3). -/
def Device.tenths (d : Device) (t : Option Timer) (k : Nat) : Option Nat :=
  t.map fun t => tenthsLeft (secondsSince d.clock t.start) (Config.freeTenths (d.freeReads + k))

/-- What QUERY DOOR gives beside the record of door `n` (R101). -/
def Device.doorTimes (d : Device) (n : Nat) (r : Door) : DoorTimes where
  station := d.left (r.demands.station.bind fun x => x.timer)
  confirmTenths := d.tenths r.confirm 0
  held := d.left r.held
  shunt := d.left r.shunt
  watchTenths := d.tenths r.watch 1
  passage := d.passageOf n

/-- QUERY DOOR (R101). Two free values are read for the record of a loaded door (log 3); an unloaded door is answered without
the passage that names it (log 43). -/
def judgeQueryDoor (n : Nat) (d : Device) : Answer :=
  if 32 ≤ n then d.refuse .badIndex
  else match d.door? n with
  | none => d.ok (.door none none)
  | some r => Device.ok { d with freeReads := d.freeReads + 2 } (.door (some r) (some (d.doorTimes n r)))

/-- The most points that one reply of QUERY CALLS names (R137). -/
def pointsPerReply : Nat := 64

/-- QUERY CALLS (R137). -/
def judgeQueryCalls (part : CallsPart) (d : Device) : Answer :=
  match part with
  | .queue => d.ok (.callQueue (d.board.queueOrder.map d.callRow) d.board.callCounter d.board.arrivalCounter)
  | .points start =>
    d.ok (.callPoints d.board.waitingPoints.length ((d.board.waitingPoints.drop start).take pointsPerReply))

/-- The device-wide part of QUERY PLAN (R153). -/
def RouteEngine.head (r : RouteEngine) : PlanHead where
  computing := r.engine != .idle
  rerun := r.rerun
  stale := r.stale
  discards := r.discards
  number := r.planNumber
  published := r.plan.map fun p => (p.stamp, p.work.sweeps)

/-- QUERY PLAN (R153); of an unloaded zone neither a blocked mark nor an entry penalty (log 48). -/
def judgeQueryPlan (z : Nat) (d : Device) : Answer :=
  if 48 ≤ z then d.refuse .badIndex
  else d.ok (.plan d.route.head ((d.zone? z).map fun r =>
    { blocked := r.blocked, penalty := r.penalty, entry := d.planEntry? z }))

/-- The state of a group as QUERY SIGN gives it (R168). -/
def Device.groupRow (d : Device) (g : Nat) : GroupRow where
  group := d.group g
  stepLeft := match (d.group g).state with
    | .test _ t => some (t.left d.clock)
    | _ => none

/-- QUERY SIGN (R168); an unloaded sign is answered with the state of group 0, and without the plan's part (log 41). -/
def judgeQuerySign (n : Nat) (d : Device) : Answer :=
  if 64 ≤ n then d.refuse .badIndex
  else match d.sign? n with
  | none => d.ok (.sign none (d.groupRow 0) none)
  | some r =>
    let e := d.planEntry? r.zone
    d.ok (.sign (some r) (d.groupRow r.group) (d.route.plan.map fun p =>
      { number := p.number, next := e.bind fun e => e.next.map (·.passage), distance := e.map (·.distance) }))

/-- What is left of the delay of an entry in DELAYING. -/
def Device.delayLeft (d : Device) (r : Rule) : Option Nat :=
  match r.outcome with
  | .delaying t => some (t.left d.clock)
  | _ => none

/-- What QUERY RULE gives (R121); of an unloaded entry the ranges, the slots, whether it is live, Dn and Nn, but no fields,
outcome, operand values or truth (log 44). -/
def Device.ruleRow (d : Device) (e : Nat) : RuleRow where
  rule := d.rule? e
  left := (d.rule? e).bind d.delayLeft
  valueA := (d.rule? e).map fun r => d.operand r.a
  valueB := (d.rule? e).map fun r => d.operand r.b
  truth := (d.rule? e).map d.truth
  daySlot := if d.inDay e then some e else none
  nightSlot := if d.inNight e then some (127 - e) else none
  live := d.live e
  dn := d.daySlots
  nn := d.nightSlots

/-- QUERY RULE (R121). -/
def judgeQueryRule (e : Nat) (d : Device) : Answer :=
  if 128 ≤ e then d.refuse .badIndex else d.ok (.rule (d.ruleRow e))

/-- What QUERY STATUS gives (R183, R186). -/
def Device.statusRow (d : Device) : StatusRow where
  op := d.link.op
  mode := d.sup.mode
  supervisionLeft := match d.sup.mode with
    | .linked t => some (t.left d.clock)
    | .autonomous _ => none
  interval := d.sup.interval
  locked := d.sup.locked
  lastPulse := d.sup.lastPulse
  regime := d.regime
  planNumber := d.route.planNumber
  planPublished := d.route.plan.isSome
  reports := d.link.reports.length
  gapMark := d.link.gapMark
  masks := d.link.masks
  anyAlarm := d.anyAlarm
  holdLeft := d.left d.alarmHold
  mainsFail := d.mainsFail
  sounders := Tab.map (·.state) d.sounders
  relays := d.relays
  clock := d.clock

/-- A query of the parameterless kind: the code alone (R183, R184). -/
def queryCodeAlone (code : Nat) (body : List Byte) : Option Unit :=
  if oneByte body = some code then some () else none

/-- QUERY STATUS; an unknown code is refused with BAD_VALUE (R183). -/
def judgeQueryStatus (d : Device) : Answer := d.ok (.status d.statusRow)

/-- QUERY RESET_CAUSE (R192): the set is told and emptied. -/
def judgeQueryResetCause (d : Device) : Answer :=
  Device.ok { d with sup := { d.sup with causes := {} } } (.causes d.sup.causes)

/-- QUERY POINT. -/
def execQueryPoint (h : Header) (body : List Byte) (s : State) : Host.Outcome State Fault Refusal :=
  s.after (s.dev.request queryGate h body fun _ d => d.parsed (queryIndex 0 body) fun p => judgeQueryPoint p d)

/-- QUERY ZONE. -/
def execQueryZone (h : Header) (body : List Byte) (s : State) : Host.Outcome State Fault Refusal :=
  s.after (s.dev.request queryGate h body fun _ d => d.parsed (queryIndex 1 body) fun z => judgeQueryZone z d)

/-- QUERY DOOR. -/
def execQueryDoor (h : Header) (body : List Byte) (s : State) : Host.Outcome State Fault Refusal :=
  s.after (s.dev.request queryGate h body fun _ d => d.parsed (queryIndex 2 body) fun n => judgeQueryDoor n d)

/-- QUERY CALLS. -/
def execQueryCalls (h : Header) (body : List Byte) (s : State) : Host.Outcome State Fault Refusal :=
  s.after (s.dev.request queryGate h body fun _ d => d.parsed (CallsPart.parse body) fun x => judgeQueryCalls x d)

/-- QUERY PLAN. -/
def execQueryPlan (h : Header) (body : List Byte) (s : State) : Host.Outcome State Fault Refusal :=
  s.after (s.dev.request queryGate h body fun _ d => d.parsed (queryIndex 4 body) fun z => judgeQueryPlan z d)

/-- QUERY SIGN. -/
def execQuerySign (h : Header) (body : List Byte) (s : State) : Host.Outcome State Fault Refusal :=
  s.after (s.dev.request queryGate h body fun _ d => d.parsed (queryIndex 5 body) fun n => judgeQuerySign n d)

/-- QUERY RULE. -/
def execQueryRule (h : Header) (body : List Byte) (s : State) : Host.Outcome State Fault Refusal :=
  s.after (s.dev.request queryGate h body fun _ d => d.parsed (queryIndex 6 body) fun e => judgeQueryRule e d)

/-- QUERY STATUS, and a QUERY that names no query code (log 11). -/
def execQueryStatus (h : Header) (body : List Byte) (s : State) : Host.Outcome State Fault Refusal :=
  s.after (s.dev.request queryGate h body fun _ d => d.parsed (queryCodeAlone 7 body) fun _ => judgeQueryStatus d)

/-- QUERY RESET_CAUSE. -/
def execQueryResetCause (h : Header) (body : List Byte) (s : State) : Host.Outcome State Fault Refusal :=
  s.after (s.dev.request queryGate h body fun _ d => d.parsed (queryCodeAlone 8 body) fun _ => judgeQueryResetCause d)

end Sys2Proof.Machine
end

