-- ==== Sys2Proof/Machine/Supervise.lean ====
section
/-! DEFINITION. The supervision and link requests (R176, R178, R186, R187, R189), and frames of unknown kind. -/

namespace Sys2Proof.Machine

/-- The supervision timer starts at an interval (R186). -/
def Device.startSupervision (d : Device) (seconds : Nat) : Device :=
  { d with sup := { d.sup with mode := .linked (d.timer seconds) } }

/-- PULSE_A (R187). -/
def judgePulseA (d : Device) : Answer :=
  Device.ok { d with sup := { d.sup with lastPulse := .pulseA } }

/-- PULSE_B (R187): it refreshes the timer after a PULSE_A, in LINKED. -/
def judgePulseB (d : Device) : Answer :=
  let refreshed := d.sup.lastPulse = .pulseA ∧ !d.isAutonomous
  let d := { d with sup := { d.sup with lastPulse := .pulseB } }
  if refreshed then (d.startSupervision d.sup.interval).ok (.refreshed true) else d.ok (.refreshed false)

/-- SUPERVISE_SET (R186). -/
def judgeSuperviseSet (code : Nat) (d : Device) : Answer :=
  if d.sup.locked then d.refuse .locked
  else match intervalOfCode code with
  | none => d.refuse .badValue
  | some n => Device.ok (Device.startSupervision { d with sup := { d.sup with interval := n, locked := true } } n)

/-- RESUME (R189): the mode becomes LINKED, and the entries that read AUTONOMOUS are judged. -/
def judgeResume (d : Device) : Answer :=
  match d.sup.mode with
  | .linked _ => d.refuse .badState
  | .autonomous stamp =>
    ((d.startSupervision d.sup.interval).finish d).ok (.resumed stamp (secondsSince d.clock stamp))

/-- The longest run of a RANGE prefix (R178). -/
def rangeMax : Nat := 64

/-- RANGE (R178): the clamped count goes into the requesting station's slot. -/
def judgeRange (station : Byte) (n : Nat) (d : Device) : Answer :=
  match slotOf station with
  | none => d.refuse .badStation
  | some k =>
    let c := clamp 1 rangeMax n
    (d.updLink fun l => { l with slots := Tab.put l.slots k (some c) }).okOr (c != n)

/-- The masks of a class set; none for a set that names FIRE or CALL (R176, R184). -/
def masksOf (set : Byte) : Option Masks :=
  if set.getLsbD 0 || set.getLsbD 1 then none
  else some { security := set.getLsbD 2, door := set.getLsbD 3, route := set.getLsbD 4, system := set.getLsbD 5 }

/-- REPORT_MASK (R176). -/
def judgeReportMask (set : Byte) (d : Device) : Answer :=
  match masksOf set with
  | none => d.refuse .badValue
  | some m => (d.updLink fun l => { l with masks := m }).ok

/-- PULSE_A. -/
def execPulseA (h : Header) (body : List Byte) (s : State) : Host.Outcome State Fault Refusal :=
  s.after (s.dev.request { code := 0x01, lengths := [0], inAutonomous := true } h body fun _ d => judgePulseA d)

/-- PULSE_B. -/
def execPulseB (h : Header) (body : List Byte) (s : State) : Host.Outcome State Fault Refusal :=
  s.after (s.dev.request { code := 0x02, lengths := [0], inAutonomous := true } h body fun _ d => judgePulseB d)

/-- SUPERVISE_SET. -/
def execSuperviseSet (h : Header) (body : List Byte) (s : State) : Host.Outcome State Fault Refusal :=
  s.after (s.dev.request { code := 0x03, lengths := [1] } h body fun _ d =>
    d.parsed (oneByte body) fun code => judgeSuperviseSet code d)

/-- RESUME. -/
def execResume (h : Header) (body : List Byte) (s : State) : Host.Outcome State Fault Refusal :=
  s.after (s.dev.request { code := 0x04, lengths := [0], inAutonomous := true } h body fun _ d => judgeResume d)

/-- RANGE. -/
def execRange (h : Header) (body : List Byte) (s : State) : Host.Outcome State Fault Refusal :=
  s.after (s.dev.request { code := 0x06, lengths := [1] } h body fun _ d =>
    d.parsed (oneByte body) fun n => judgeRange h.station n d)

/-- REPORT_MASK. -/
def execReportMask (h : Header) (body : List Byte) (s : State) : Host.Outcome State Fault Refusal :=
  s.after (s.dev.request { code := 0x07, lengths := [1] } h body fun _ d =>
    d.parsed body.head? fun set => judgeReportMask set d)

/-- A complete frame whose kind code names no request: BUSY while a COMMIT is in flight, else UNKNOWN_KIND (R172). -/
def execUnknownKind (kind : Byte) (h : Header) (_body : List Byte) (s : State) : Host.Outcome State Fault Refusal :=
  s.after (s.dev.requestUnknown kind h)

end Sys2Proof.Machine
end

