-- ==== Sys2Proof/Machine/Restarts.lean ====
section
/-! DEFINITION. COMMIT and its checks (R180, R181), EDIT (R182), the runtime values that a successful COMMIT and a warm
restart give (R20, R62, R79, R103, R124, R138, R155, R170), the warm restart (R191) and the cold restart (R190). -/

namespace Sys2Proof.Machine

/-! ### What a block takes at a successful COMMIT and at a warm restart -/

/-- A point's runtime values (R20). -/
def Point.warm (p : Point) : Point := { p.noHistory with condition := .normal, health := .ok, held := 0, misses := 0 }

/-- Points and loops: every loop with a configured point starts a sweep at its lowest address (R20). -/
def Device.warmPoints (d : Device) : Device :=
  forEach 4 (fun l d => d.startSweep l) { d with points := Tab.map Point.warm d.points, loops := Vector.replicate 4 {} }

/-- A zone's runtime values, with the security state given (R62, R79, R138, R155, R124). -/
def Zone.cleared (z : Zone) (s : Security) : Zone :=
  { z with
    fire := .quiet, preCount := 0, activeCount := 0, faultCount := 0
    security := s, openContacts := 0, openCases := 0
    callWaiting := false, callEscalated := false, noRoute := false, avoid := false }

/-- Zones with an active policy go to SET in RUNNING; in COMMISSIONING every zone is OFF (R78, R79, log 18). -/
def Device.warmSecurity (d : Device) (z : Zone) : Security :=
  if d.isRunning && z.policy.activeIn d.regime then .armed else .off

/-- Zones, the alarm hold and the sounders (R62, R79). -/
def Device.warmZones (d : Device) : Device :=
  { d with
    zones := Tab.map (Option.map fun z => z.cleared (d.warmSecurity z)) d.zones
    alarmHold := none
    sounders := Vector.replicate 16 {} }

/-- What a door's node has told is forgotten, its timers are removed and its watch restarts (R103). -/
def Door.unheard (r : Door) (watch : Timer) : Door :=
  { r with
    leaf := none, lock := none, health := .ok, condition := none
    confirm := none, held := none, shunt := none, watch := some watch }

/-- The demands after the restart: TIMETABLE kept, STATION and RULE removed, the built-in ones afresh (R103). -/
def Device.warmDemands (d : Device) (n : Nat) (r : Door) : Demands :=
  { r.demands with station := none, rule := none, life := d.lifeOf n r.kind, intrusion := d.intrusionOf r }

/-- Door `n` at the restart (R103): in RUNNING the drive follows the new demands without a report, and a changed drive
awaits an early exchange (R82); in COMMISSIONING demands and drive are held (R102, log 18). No DOOR_CONDITION report tells
of the condition that becomes absent, and no DOOR_NODE report of a silent node that counts as heard (log 39). -/
def Device.warmDoor (n : Nat) (d : Device) : Device :=
  match d.door? n with
  | none => d
  | some r =>
    let u := r.unheard (d.timer confirmSeconds)
    if d.isRunning then
      let m := d.warmDemands n r
      let x := m.top r.kind
      let d := d.putDoor n { u with demands := m, drive := x.1, level := x.2 }
      if x.1 = r.drive then d else d.exchangeEarly n
    else d.putDoor n u

/-- Every door at the restart (R103). -/
def Device.warmDoors (d : Device) : Device := forEach 32 Device.warmDoor d

/-- Blank marks cleared and groups in RUN (R169, R170). -/
def Device.clearSigns (d : Device) : Device :=
  { d.clearBlanks with groups := Tab.map (fun g => { g with state := .run }) d.groups }

/-- No calls, no pending points, both counters 0 (R138). -/
def Device.dropCalls (d : Device) : Device := { d with board := {} }

/-- The report of a clearing of the calls, with the numbers that the event found (R138). -/
def Device.reportCleared (d : Device) (calls points : Nat) : Device := d.report .call 0 (.callsCleared calls points)

/-- The runtime values of a successful COMMIT and of a warm restart, up to the fresh evaluation of the rule table; in
RUNNING the event is a trigger of the route engine (R155, R181, R191). The blank marks are cleared here (R170): the
drives computed afresh blank nothing, and what the fresh evaluation blocks blanks its arrows (R152; log 40). The
CALLS_CLEARED report stands before those of the fresh evaluation (log 12). -/
def Device.warm (d : Device) : Device :=
  let n := d.board.calls.length
  let k := d.board.waitingPoints.length
  let d := (({ d with mainsFail := d.inputs.mainsFailed, route := d.route.stop }).warmPoints.warmZones).rulesOff
  ((d.warmDoors.clearSigns.dropCalls).reportCleared n k).trigger none

/-- The warm values with the fresh evaluation and the signs that follow it (R124, R163). -/
def Device.warmed (d : Device) : Device :=
  let w := d.warm
  w.finish w true

/-! ### COMMIT (R180, R181) -/

/-- Point `p` is configured and satisfies `f`. -/
def Device.pointThat (d : Device) (f : Point → Bool) (p : Nat) : Bool := (d.point p).kind != .absent && f (d.point p)

/-- A check that failed: the table's code and the index named (R180, R184). -/
abbrev CheckFailure := Nat × Nat

/-- Step 1: a configured point that names no loaded zone. -/
def Device.checkPoints (d : Device) : Option CheckFailure :=
  (firstFrom 256 0 (d.pointThat fun r => (d.zone? r.zone).isNone)).map fun p => (1, p)

/-- Step 2: a loaded EXIT zone that holds a fire point (R41). -/
def Device.checkExits (d : Device) : Option CheckFailure :=
  (firstFrom 48 0 fun z => (d.zone? z).any (fun r => r.kind == .exit) &&
    (List.range 256).any (d.pointThat fun r => isFireKind r.kind && r.zone == z)).map fun z => (2, z)

/-- Step 3: no loaded EXIT zone. -/
def Device.checkSomeExit (d : Device) : Option CheckFailure :=
  if d.anyZone fun r => r.kind == .exit then none else some (2, 255)

/-- Passage `i` passes its check (R141). -/
def Device.passageOk (d : Device) (i : Nat) (r : Passage) : Bool :=
  (d.zone? r.a).isSome && (d.zone? r.b).isSome && r.door.all fun n =>
    (d.door? n).isSome && !(List.range i).any fun j => (d.passage? j).any fun q => q.door == some n

/-- Step 4: a loaded passage that does not pass (R141). -/
def Device.checkPassages (d : Device) : Option CheckFailure :=
  (firstFrom 96 0 fun i => (d.passage? i).any fun r => !d.passageOk i r).map fun i => (3, i)

/-- Binding `b` of a sign in zone `z` passes: a loaded passage that touches the zone (R159). -/
def Device.bindingOk (d : Device) (z : Nat) (b : Option Nat) : Bool :=
  b.all fun p => (d.passage? p).any fun r => r.touches z

/-- Step 5: a loaded sign that does not pass (R159). -/
def Device.checkSigns (d : Device) : Option CheckFailure :=
  (firstFrom 64 0 fun n => (d.sign? n).any fun r =>
    (d.zone? r.zone).isNone || !r.bindings.toList.all (d.bindingOk r.zone)).map fun n => (4, n)

/-- An operand passes: a zone flag names a loaded zone (R122). -/
def Device.operandOk (d : Device) : Operand → Bool
  | .zone z _ => (d.zone? z).isSome
  | .global _ => true

/-- An effect passes: a loaded door that the drive fits, a loaded zone (R122). -/
def Device.effectOk (d : Device) : Effect → Bool
  | .door n v => (d.door? n).any fun r => r.kind.fits v
  | .sounder _ => true
  | .relay _ => true
  | .avoid z => (d.zone? z).isSome

/-- Step 6: an enabled entry in a range that does not pass (R122). -/
def Device.checkRules (d : Device) : Option CheckFailure :=
  (firstFrom 128 0 fun e => (d.inDay e || d.inNight e) && (d.rule? e).any fun r =>
    r.enabled && !(d.operandOk r.a && d.operandOk r.b && d.effectOk r.effect)).map fun e => (5, e)

/-- The kind names a class that is read (R22). -/
def readsClass : PointKind → Bool
  | .smoke | .heat => true
  | _ => false

/-- Step 7: the class named by the first SMOKE or HEAT point whose class is unloaded (R25). -/
def Device.checkClasses (d : Device) : Option CheckFailure :=
  (firstFrom 256 0 (d.pointThat fun r => readsClass r.kind && (d.class? r.cls).isNone)).map fun p => (6, (d.point p).cls)

/-- The seven checks in order; the first failure (R180). -/
def Device.commitCheck (d : Device) : Option CheckFailure :=
  d.checkPoints <|> d.checkExits <|> d.checkSomeExit <|> d.checkPassages <|> d.checkSigns <|> d.checkRules <|> d.checkClasses

/-- The kind code of COMMIT (R184). -/
def commitCode : Byte := 0x19

/-- COMMIT (R180): it is in flight from now on, and its reply is formed at its completion. -/
def judgeCommit (h : Header) (d : Device) : Answer :=
  d.whenCommissioning ⟨d.updLink fun l => { l with commit := some h }, none⟩

/-- The completion of the COMMIT of header `h` (R181). -/
def Device.completeCommit (d : Device) (h : Header) : Device :=
  let d := d.updLink fun l => { l with commit := none }
  match d.commitCheck with
  | some (table, index) => d.reply commitCode h .checkFailed (.checkFailed table index)
  | none => ((d.updLink fun l => { l with op := .running }).warmed).reply commitCode h .ok

/-! ### EDIT (R182) -/

/-- What EDIT will end (R182); its calls and pending points are one sum (log 46). -/
def Device.editCounts (d : Device) : EditCounts where
  preZones := d.zones.toList.countP fun z => z.any fun r => r.fire.isPre
  guardedZones := d.zones.toList.countP fun z => z.any fun r => r.security != .off
  rules := d.rules.toList.countP fun x => x.any fun r => r.outcome != .off
  relays := d.relays.toList.countP id
  sounders := d.sounders.toList.countP fun x => x.state != .quiet
  calls := d.board.calls.length + d.board.waitingPoints.length
  groups := d.groups.toList.countP fun g => g.state != .run
  planPublished := d.route.plan.isSome

/-- Points at EDIT: conditions, confirm counts and rings; health, baselines and sweeps go on (R21). -/
def Device.editPoints (d : Device) : Device :=
  { d with
    points := Tab.map (fun p => { p.noHistory with condition := .normal }) d.points
    loops := Tab.map (fun l => { l with confirmQueue := [] }) d.loops }

/-- Zones, hold and sounders at EDIT; the fault counts follow the health, which is kept (R61, R78, R123). -/
def Device.editZones (d : Device) : Device :=
  { d with
    zones := Tab.map (Option.map fun z => { z.cleared .off with faultCount := z.faultCount }) d.zones
    alarmHold := none
    sounders := Vector.replicate 16 {} }

/-- The duration timers of the STATION demands are cancelled at EDIT (R102). -/
def Device.editDoors (d : Device) : Device :=
  { d with doors := Tab.map (Option.map fun r =>
      { r with demands := { r.demands with station := r.demands.station.map fun x => { x with timer := none } } }) d.doors }

/-- EDIT's event (R182): every block as its chapter gives, without reports. -/
def Device.edit (d : Device) : Device :=
  let d := d.updLink fun l => { l with op := .commissioning }
  let d := ({ d with route := d.route.stop }).editPoints.editZones.editDoors.rulesOff.clearSigns.dropCalls
  d.settleSigns

/-- EDIT (R182). -/
def judgeEdit (d : Device) : Answer :=
  d.whenRunning (if d.anyHot then d.refuse .badState else d.edit.ok (.edit d.editCounts))

/-! ### RESTART and the warm restart (R191) -/

/-- The kind code of RESTART (R184). -/
def restartCode : Byte := 0x05

/-- A COMMIT in flight is abandoned by a RESTART: its reply names no table (R181). -/
def Device.abandonCommit (d : Device) : Device :=
  match d.link.commit with
  | none => d
  | some h => (d.updLink fun l => { l with commit := none }).reply commitCode h .checkFailed
      (.checkFailed 0 Config.noTableIndex.toNat)

/-- RESTART (R181, R191): its reply follows that of an abandoned COMMIT, and no further request is taken. -/
def judgeRestart (d : Device) : Answer :=
  (d.abandonCommit.updLink fun l => { l with restarting := true }).ok

/-- The reply to the RESTART is on the line. -/
def Link.restartReplySent (l : Link) : Bool :=
  l.restarting && match l.tx with
    | some (.reply r) => r.kind == replyKind restartCode && r.status == .ok
    | _ => false

/-- The link controller at a warm restart (R177, R178, R191). -/
def Link.warm (l : Link) : Link :=
  { l with
    commit := none, restarting := false, slots := Vector.replicate 9 none, replies := [], reports := []
    gapMark := l.gapMark || !l.reports.isEmpty, tx := none, rx := [] }

/-- The supervision unit at a warm restart (R186, R191, R192). -/
def Supervision.warm (p : Supervision) (now : Seconds) : Supervision :=
  { mode := .linked ⟨now, 30⟩, interval := 30, locked := false, lastPulse := .none
    causes := { p.causes with restartRequest := true } }

/-- The warm restart (R191). -/
def Device.warmRestart (d : Device) : Device :=
  (({ d with link := d.link.warm, sup := d.sup.warm d.clock }).warmed).transmit

/-! ### The cold restart (R190) -/

/-- The cold restart (R190): every block at its cold values, with the inputs as they stand and the causes given; the calls
and pending points that it discards are told (R138). -/
def Device.coldRestart (d : Device) (causes : Causes) : Device :=
  let c : Device := {
    inputs := d.inputs, mainsFail := d.inputs.mainsFailed, sup := { causes := causes }, freeReads := d.freeReads }
  (c.reportCleared d.board.calls.length d.board.waitingPoints.length).transmit

/-- A change of the supply or of the reset input that may let the FG640 operate: then it takes the cold restart (R190). -/
def Device.powerChange (d : Device) (inputs : Inputs) (causes : Causes) : Device :=
  let d := { d with inputs := inputs }
  if d.up then d.coldRestart causes else d

/-! ### The rows -/

/-- RESTART: judged by the usual steps, but not answered BUSY (R172, R181, R191). -/
def execRestart (h : Header) (body : List Byte) (s : State) : Host.Outcome State Fault Refusal :=
  s.after (s.dev.request { code := restartCode, lengths := [0], duringCommit := true } h body fun _ d => judgeRestart d)

/-- COMMIT. -/
def execCommit (h : Header) (body : List Byte) (s : State) : Host.Outcome State Fault Refusal :=
  s.after (s.dev.request { code := commitCode, lengths := [0] } h body fun _ d => judgeCommit h d)

/-- EDIT. -/
def execEdit (h : Header) (body : List Byte) (s : State) : Host.Outcome State Fault Refusal :=
  s.after (s.dev.request { code := 0x1A, lengths := [0] } h body fun _ d => judgeEdit d)

/-- The completion of the COMMIT in flight (R180, R181). -/
def execCommitCompletion (s : State) : Host.Outcome State Fault Refusal :=
  s.after (match s.dev.link.commit with
    | none => s.dev
    | some h => if s.dev.up then (s.dev.completeCommit h).transmit else s.dev)

/-- The RESTART reply has finished sending: the warm restart (R191). -/
def execWarmRestart (s : State) : Host.Outcome State Fault Refusal :=
  s.after (if s.dev.up && s.dev.link.restartReplySent then s.dev.warmRestart else s.dev)

/-- The frame on the line has finished sending; the next begins (R173), or the warm restart is taken (R191). -/
def execFrameSent (s : State) : Host.Outcome State Fault Refusal :=
  s.after (
    if !s.dev.up || s.dev.link.tx.isNone then s.dev
    else if s.dev.link.restartReplySent then s.dev.warmRestart
    else (s.dev.updLink fun l => { l with tx := none }).transmit)

/-- The supply reaches its working level (R190). -/
def execPowerOn (s : State) : Host.Outcome State Fault Refusal :=
  s.after (s.dev.powerChange { s.dev.inputs with supplyOk := true } { powerOn := true })

/-- The reset input is released (R190). -/
def execResetLine (s : State) : Host.Outcome State Fault Refusal :=
  s.after (s.dev.powerChange { s.dev.inputs with resetHeld := false } { resetLine := true })

/-- The outputs are no longer driven and the lines rest (R190): relays released, circuits silent, no frame on the line or
half received, no exchange and no send. Everything else stands until the cold restart (log 14). -/
def Device.outputsOff (d : Device) : Device :=
  { d with
    link := { d.link with tx := none, rx := [] }
    loops := Tab.map (fun l => { l with exchange := none }) d.loops
    sounders := Tab.map (fun c => { c with state := .quiet }) d.sounders
    doorLine := { d.doorLine with exchange := none }
    relays := Vector.replicate 16 false
    signLine := { d.signLine with sending := none } }

/-- The supply falls below its working level: the FG640 takes and sends nothing, polls no loop and drives no output until
the cold restart (R190). -/
def execSupplyBelowWorkingLevel (s : State) : Host.Outcome State Fault Refusal :=
  s.after { s.dev.outputsOff with inputs := { s.dev.inputs with supplyOk := false } }

/-- The reset input is held: the FG640 takes and sends nothing, polls no loop and drives no output until the cold restart
(R190). -/
def execResetInputHeld (s : State) : Host.Outcome State Fault Refusal :=
  s.after { s.dev.outputsOff with inputs := { s.dev.inputs with resetHeld := true } }

end Sys2Proof.Machine
end

