-- ==== Sys2Proof/Machine/Timers.lean ====
section
/-! DEFINITION. The time base (R185), the mains-status input (R112), and the expiries of the blocks' timers. An expiry is
taken only while its timer runs and its time has elapsed (log 2). -/

namespace Sys2Proof.Machine

/-- The timer is the one that runs and its time has elapsed. -/
def Device.expires (d : Device) (t : Option Timer) : Bool := d.due t

/-- One second passes (R185). -/
def execTimeBaseTick (s : State) : Host.Outcome State Fault Refusal :=
  s.after (if s.dev.up then { s.dev with clock := s.dev.clock + 1 } else s.dev)

/-- The mains flag follows the input (R112); the MAINS report stands before those of the rule entries that read the flag
(log 12). -/
def Device.mainsMoves (d : Device) (failed : Bool) : Device :=
  ({ d with mainsFail := failed }).report .system 0 (.mains failed)

/-- The mains-status input changes (R112); while the FG640 does not operate, only the input moves (R190). -/
def execMainsChange (failed : Bool) (s : State) : Host.Outcome State Fault Refusal :=
  let d := { s.dev with inputs := { s.dev.inputs with mainsFailed := failed } }
  s.after (d.event (d.mainsFail != failed) fun d => d.mainsMoves failed)

/-! ### Supervision (R188) -/

/-- The supervision timer has expired in LINKED. -/
def Device.supervisionDue (d : Device) : Bool :=
  match d.sup.mode with
  | .linked t => t.due d.clock
  | .autonomous _ => false

/-- The mode becomes AUTONOMOUS and the blocks act (R188); the reports stand in the order of the blocks in R188's table,
and the calls that a zone's alarm re-ranks (R130) are told at the end of the event, after those released (R136). The ZONE_CALL
reports of the released calls stand there too, after the DOOR and SIGN_GROUP reports (log 12). -/
def Device.loseHost (d : Device) : Device :=
  let d := { d with sup := { d.sup with mode := .autonomous d.clock } }
  let d := if d.isRunning then ((d.promoteVerify .autonomous).releaseAllCalls.dropStations).endTests else d
  d.updLink fun l => { l with slots := Vector.replicate 9 none }

/-- The supervision timer expires (R188). -/
def execSupervisionExpiry (s : State) : Host.Outcome State Fault Refusal :=
  s.after (s.dev.event s.dev.supervisionDue Device.loseHost)

/-! ### Zones (R49, R56, R66, R73) -/

/-- The cause of the alarm at the expiry of a phase (R49). -/
def Phase.expiryCause : Phase → AlarmCause
  | .ackWait => .ackExpiry
  | .search _ => .searchExpiry

/-- The zone enters ALARM at the end of its phase (R49). -/
def Device.phaseEnds (d : Device) (z : Nat) : Device :=
  match d.fire z with
  | .verify ph _ _ => d.enterAlarm z ph.expiryCause none
  | _ => d

/-- The fire timer of a zone expires (R49). -/
def execFireTimerExpiry (z : Nat) (s : State) : Host.Outcome State Fault Refusal :=
  s.after (s.dev.event (s.dev.expires (s.dev.fire z).timer?) fun d => d.phaseEnds z)

/-- The alarm hold ends (R56); the ALARM_HOLD report stands before those of the rule entries that read the flag (log 12). -/
def Device.holdEnds (d : Device) : Device := ({ d with alarmHold := none }).report .fire 0 (.alarmHold false)

/-- The alarm hold expires (R56). -/
def execAlarmHoldExpiry (s : State) : Host.Outcome State Fault Refusal :=
  s.after (s.dev.event (s.dev.expires s.dev.alarmHold) Device.holdEnds)

/-- The security state of a zone; OFF for an unloaded zone (R64). -/
def Device.security (d : Device) (z : Nat) : Security := ((d.zone? z).map (·.security)).getD .off

/-- The security timer of a zone in SETTING. -/
def Security.exitTimer : Security → Option Timer
  | .setting t => some t
  | _ => none

/-- The security timer of a zone in ENTRY. -/
def Security.entryTimer : Security → Option Timer
  | .entry t _ => some t
  | _ => none

/-- The exit check of a zone (R66). -/
def Device.exitEnds (d : Device) (z : Nat) : Device :=
  match d.zone? z with
  | none => d
  | some r => d.changeSecurity z r.exitCheck

/-- The exit delay of a zone expires (R66). -/
def execExitDelayExpiry (z : Nat) (s : State) : Host.Outcome State Fault Refusal :=
  s.after (s.dev.event (s.dev.expires (s.dev.security z).exitTimer) fun d => d.exitEnds z)

/-- The entry delay of a zone ends: INTRUDER, with the entry source (R73). -/
def Device.entryEnds (d : Device) (z : Nat) : Device :=
  match d.security z with
  | .entry _ src => d.intrude z .entryExpiry src
  | _ => d

/-- The entry delay of a zone expires (R73). -/
def execEntryDelayExpiry (z : Nat) (s : State) : Host.Outcome State Fault Refusal :=
  s.after (s.dev.event (s.dev.expires (s.dev.security z).entryTimer) fun d => d.entryEnds z)

/-! ### Doors (R87, R92, R95 to R98) -/

/-- A timer of door `n`. -/
def Device.doorTimer (d : Device) (n : Nat) (f : Door → Option Timer) : Option Timer := (d.door? n).bind f

/-- The timer of the STATION demand of a door. -/
def Door.stationTimer (r : Door) : Option Timer := r.demands.station.bind fun x => x.timer

/-- The STATION demand of door `n` is removed (R87). -/
def Device.stationEnds (d : Device) (n : Nat) : Device :=
  match d.door? n with
  | none => d
  | some r => d.setDemands n { r.demands with station := none }

/-- The duration of a STATION demand expires (R87); demands move in RUNNING only (R102). -/
def execStationDemandExpiry (n : Nat) (s : State) : Host.Outcome State Fault Refusal :=
  s.after (s.dev.event (s.dev.isRunning && s.dev.expires (s.dev.doorTimer n Door.stationTimer)) fun d => d.stationEnds n)

/-- The confirm timer of a door ends: LOCK_FAIL (R92). -/
def Device.confirmEnds (d : Device) (n : Nat) : Device :=
  (d.updDoor n fun r => { r with confirm := none }).changeCondition n .lockFail

/-- The confirm timer of a door expires (R92). -/
def execConfirmTimerExpiry (n : Nat) (s : State) : Host.Outcome State Fault Refusal :=
  s.after (s.dev.eventAlone (s.dev.expires (s.dev.doorTimer n (·.confirm))) fun d => d.confirmEnds n)

/-- The held timer of a door ends: HELD (R96, R97). -/
def Device.heldEnds (d : Device) (n : Nat) : Device :=
  (d.updDoor n fun r => { r with held := none }).changeCondition n .held

/-- The held timer of a door expires (R96, R97). -/
def execHeldTimerExpiry (n : Nat) (s : State) : Host.Outcome State Fault Refusal :=
  s.after (s.dev.eventAlone (s.dev.expires (s.dev.doorTimer n (·.held))) fun d => d.heldEnds n)

/-- The shunt of a door ends with no other effect (R95). -/
def Device.shuntEnds (d : Device) (n : Nat) : Device := d.updDoor n fun r => { r with shunt := none }

/-- The shunt timer of a door expires (R95). -/
def execShuntTimerExpiry (n : Nat) (s : State) : Host.Outcome State Fault Refusal :=
  s.after (s.dev.eventAlone (s.dev.expires (s.dev.doorTimer n (·.shunt))) fun d => d.shuntEnds n)

/-- The node watch of a door expires (R98). -/
def execNodeWatchExpiry (n : Nat) (s : State) : Host.Outcome State Fault Refusal :=
  s.after (s.dev.eventAlone (s.dev.expires (s.dev.doorTimer n (·.watch))) fun d => d.nodeSilent n)

/-! ### Rules, calls and signs (R115, R131, R166) -/

/-- The delay timer of an entry in DELAYING. -/
def RuleOutcome.timer? : RuleOutcome → Option Timer
  | .delaying t => some t
  | _ => none

/-- Entry `e` becomes ON and asserts its effect (R115, R117). -/
def Device.delayEnds (d : Device) (e : Nat) : Device :=
  d.applyOutcomes (d.outcomesBy fun i r => if i = e then .on else r.outcome)

/-- The delay of a rule entry expires (R115). -/
def execRuleDelayExpiry (e : Nat) (s : State) : Host.Outcome State Fault Refusal :=
  s.after (s.dev.event (s.dev.live e && s.dev.expires ((s.dev.rule? e).bind fun r => r.outcome.timer?)) fun d => d.delayEnds e)

/-- The answer timer of a WAITING call: its limit from its answer start (R130, R131). -/
def Call.timer? (c : Call) : Option Timer :=
  match c.state with
  | .waiting t => some ⟨t, c.priority.limit⟩
  | _ => none

/-- The call of a number escalates (R131). -/
def Device.escalate (d : Device) (n : Nat) : Device :=
  match d.board.find? n with
  | none => d
  | some c => d.changeCall { c with state := .escalated }

/-- The answer timer of a call expires (R131). -/
def execAnswerTimerExpiry (n : Nat) (s : State) : Host.Outcome State Fault Refusal :=
  s.after (s.dev.event (s.dev.expires ((s.dev.board.find? n).bind Call.timer?)) fun d => d.escalate n)

/-- The step timer of a group in TEST. -/
def Group.timer? (g : Group) : Option Timer :=
  match g.state with
  | .test _ t => some t
  | _ => none

/-- One step of a lamp test ends: the counter advances, or the group goes to STOPPED (R166). -/
def Device.stepEnds (d : Device) (g : Nat) : Device :=
  let r := d.group g
  match r.state with
  | .test c _ =>
    if c + 1 < r.testLength then (d.putGroup g { r with state := .test (c + 1) (d.timer stepSeconds) }).settleSigns
    else (d.changeGroup g .stopped).settleSigns
  | _ => d

/-- The step timer of a group expires (R166). -/
def execStepTimerExpiry (g : Nat) (s : State) : Host.Outcome State Fault Refusal :=
  s.after (s.dev.eventAlone (s.dev.expires (s.dev.group g).timer?) fun d => d.stepEnds g)

end Sys2Proof.Machine
end

