-- ==== Sys2Proof/Machine/Dispatch.lean ====
section
/-! DEFINITION. The meaning of each command: one arm for each constructor. -/

namespace Sys2Proof.Machine

/-- The effect of a command on everything but the queue of waiting commands. -/
def exec (i : Instr) (s : State) : Host.Outcome State Fault Refusal :=
  match i with
  | .pulseA h body => Sys2Proof.Machine.execPulseA h body s
  | .pulseB h body => Sys2Proof.Machine.execPulseB h body s
  | .superviseSet h body => Sys2Proof.Machine.execSuperviseSet h body s
  | .resume h body => Sys2Proof.Machine.execResume h body s
  | .restart h body => Sys2Proof.Machine.execRestart h body s
  | .range h body => Sys2Proof.Machine.execRange h body s
  | .reportMask h body => Sys2Proof.Machine.execReportMask h body s
  | .queryPoint h body => Sys2Proof.Machine.execQueryPoint h body s
  | .queryZone h body => Sys2Proof.Machine.execQueryZone h body s
  | .queryDoor h body => Sys2Proof.Machine.execQueryDoor h body s
  | .queryCalls h body => Sys2Proof.Machine.execQueryCalls h body s
  | .queryPlan h body => Sys2Proof.Machine.execQueryPlan h body s
  | .querySign h body => Sys2Proof.Machine.execQuerySign h body s
  | .queryRule h body => Sys2Proof.Machine.execQueryRule h body s
  | .queryStatus h body => Sys2Proof.Machine.execQueryStatus h body s
  | .queryResetCause h body => Sys2Proof.Machine.execQueryResetCause h body s
  | .loadZone h body => Sys2Proof.Machine.execLoadZone h body s
  | .loadPoint h body => Sys2Proof.Machine.execLoadPoint h body s
  | .loadClass h body => Sys2Proof.Machine.execLoadClass h body s
  | .loadDoor h body => Sys2Proof.Machine.execLoadDoor h body s
  | .loadPassage h body => Sys2Proof.Machine.execLoadPassage h body s
  | .loadSign h body => Sys2Proof.Machine.execLoadSign h body s
  | .loadGroup h body => Sys2Proof.Machine.execLoadGroup h body s
  | .loadRule h body => Sys2Proof.Machine.execLoadRule h body s
  | .loadLimits h body => Sys2Proof.Machine.execLoadLimits h body s
  | .commit h body => Sys2Proof.Machine.execCommit h body s
  | .edit h body => Sys2Proof.Machine.execEdit h body s
  | .setRegime h body => Sys2Proof.Machine.execSetRegime h body s
  | .clearLatches h body => Sys2Proof.Machine.execClearLatches h body s
  | .ackAlarm h body => Sys2Proof.Machine.execAckAlarm h body s
  | .cancelVerify h body => Sys2Proof.Machine.execCancelVerify h body s
  | .resetFire h body => Sys2Proof.Machine.execResetFire h body s
  | .silence h body => Sys2Proof.Machine.execSilence h body s
  | .resound h body => Sys2Proof.Machine.execResound h body s
  | .armZone h body => Sys2Proof.Machine.execArmZone h body s
  | .disarmZone h body => Sys2Proof.Machine.execDisarmZone h body s
  | .resetIntruder h body => Sys2Proof.Machine.execResetIntruder h body s
  | .disablePoint h body => Sys2Proof.Machine.execDisablePoint h body s
  | .enablePoint h body => Sys2Proof.Machine.execEnablePoint h body s
  | .doorGuard h body => Sys2Proof.Machine.execDoorGuard h body s
  | .schedule h body => Sys2Proof.Machine.execSchedule h body s
  | .claimCall h body => Sys2Proof.Machine.execClaimCall h body s
  | .releaseCall h body => Sys2Proof.Machine.execReleaseCall h body s
  | .closeCall h body => Sys2Proof.Machine.execCloseCall h body s
  | .groupStop h body => Sys2Proof.Machine.execGroupStop h body s
  | .groupRun h body => Sys2Proof.Machine.execGroupRun h body s
  | .testStart h body => Sys2Proof.Machine.execTestStart h body s
  | .unknownKind kind h body => Sys2Proof.Machine.execUnknownKind kind h body s
  | .frameDiscard bytes => Sys2Proof.Machine.execFrameDiscard bytes s
  | .frameByteTimeout bytes => Sys2Proof.Machine.execFrameByteTimeout bytes s
  | .frameSent => Sys2Proof.Machine.execFrameSent s
  | .commitCompletion => Sys2Proof.Machine.execCommitCompletion s
  | .warmRestart => Sys2Proof.Machine.execWarmRestart s
  | .powerOn => Sys2Proof.Machine.execPowerOn s
  | .resetLine => Sys2Proof.Machine.execResetLine s
  | .mainsChange failed => Sys2Proof.Machine.execMainsChange failed s
  | .timeBaseTick => Sys2Proof.Machine.execTimeBaseTick s
  | .supervisionExpiry => Sys2Proof.Machine.execSupervisionExpiry s
  | .loopAnswer loop code reading tamper => Sys2Proof.Machine.execLoopAnswer loop code reading tamper s
  | .loopNoAnswer loop => Sys2Proof.Machine.execLoopNoAnswer loop s
  | .fireTimerExpiry zone => Sys2Proof.Machine.execFireTimerExpiry zone s
  | .alarmHoldExpiry => Sys2Proof.Machine.execAlarmHoldExpiry s
  | .exitDelayExpiry zone => Sys2Proof.Machine.execExitDelayExpiry zone s
  | .entryDelayExpiry zone => Sys2Proof.Machine.execEntryDelayExpiry zone s
  | .stationDemandExpiry door => Sys2Proof.Machine.execStationDemandExpiry door s
  | .confirmTimerExpiry door => Sys2Proof.Machine.execConfirmTimerExpiry door s
  | .heldTimerExpiry door => Sys2Proof.Machine.execHeldTimerExpiry door s
  | .shuntTimerExpiry door => Sys2Proof.Machine.execShuntTimerExpiry door s
  | .nodeWatchExpiry door => Sys2Proof.Machine.execNodeWatchExpiry door s
  | .doorStatus leaf lock rex => Sys2Proof.Machine.execDoorStatus leaf lock rex s
  | .doorExchangeUnanswered => Sys2Proof.Machine.execDoorExchangeUnanswered s
  | .signSendComplete => Sys2Proof.Machine.execSignSendComplete s
  | .ruleDelayExpiry entry => Sys2Proof.Machine.execRuleDelayExpiry entry s
  | .answerTimerExpiry call => Sys2Proof.Machine.execAnswerTimerExpiry call s
  | .stepTimerExpiry group => Sys2Proof.Machine.execStepTimerExpiry group s
  | .routePassCompletion => Sys2Proof.Machine.execRoutePassCompletion s
  | .supplyBelowWorkingLevel => Sys2Proof.Machine.execSupplyBelowWorkingLevel s
  | .resetInputHeld => Sys2Proof.Machine.execResetInputHeld s

end Sys2Proof.Machine
end

