-- ==== Sys2Proof/Machine/Frames.lean ====
section
/-! DEFINITION. The frames that the FG640 sends, as bytes (R173, R184): start byte, body length, kind, header, body and
check. What R184 does not lay out of a body, the state of a report and most contents of replies, is a free value within
the lengths that R184 allows (log 25). -/

namespace Sys2Proof.Machine

/-- The code of a status (R184). -/
def Status.code : Status → Byte
  | .ok => 0
  | .clamped => 1
  | .busy => 2
  | .badState => 3
  | .badIndex => 4
  | .badValue => 5
  | .badAction => 6
  | .badStation => 7
  | .notOwner => 8
  | .limit => 9
  | .heldElsewhere => 10
  | .locked => 11
  | .stillActive => 12
  | .autonomous => 13
  | .unknownKind => 14
  | .checkFailed => 15

/-- A time-base value in four bytes, most significant first (R184). -/
def stampBytes (x : Seconds) : List Byte :=
  [x.extractLsb' 24 8, x.extractLsb' 16 8, x.extractLsb' 8 8, x.extractLsb' 0 8]

/-- The first eight bytes of a report's body: class, kind, object, flags, stamp (R184). -/
def Report.bodyHead (r : Report) : List Byte :=
  [BitVec.ofNat 8 r.cls.code, BitVec.ofNat 8 r.state.code, BitVec.ofNat 8 r.object, if r.gap then 1 else 0] ++ stampBytes r.stamp

/-- The most bytes of a report's state (R184). -/
def stateMax : Nat := 32

/-- The most bytes of a frame's body (R171, R184). -/
def bodyMax : Nat := 250

/-- The state of a report in bytes, at most 32 (R184, log 25). -/
def ReportState.bytes (x : ReportState) : List Byte := (Config.stateBytes x).take stateMax

/-- The body of a report: the head, the state length, the state (R184). -/
def Report.body (r : Report) : List Byte :=
  r.bodyHead ++ BitVec.ofNat 8 r.state.bytes.length :: r.state.bytes

/-- What follows the status of a reply: nothing, the table code and index of a failed check (R184), or a content that R184
does not lay out, as far as a body reaches (log 25). -/
def Content.bytes : Content → List Byte
  | .none => []
  | .checkFailed table index => [BitVec.ofNat 8 table, BitVec.ofNat 8 index]
  | c => (Config.contentBytes c).take (bodyMax - 1)

/-- The body of a reply: the status byte, which its length counts, and the content (R173, R184). -/
def Reply.body (r : Reply) : List Byte := r.status.code :: r.content.bytes

/-- The kind byte of a frame being sent; a report's is REPORT (R173, R184). -/
def TxFrame.kind : TxFrame → Byte
  | .reply r => r.kind
  | .report _ => 0x40

/-- The station and tag of a frame being sent: a reply echoes its request's, a report has station 15 and tag 0 (R173,
R184). -/
def TxFrame.header : TxFrame → Header
  | .reply r => r.header
  | .report _ => ⟨15, 0⟩

/-- The body of a frame being sent. -/
def TxFrame.body : TxFrame → List Byte
  | .reply r => r.body
  | .report r => r.body

/-- The bytes of a frame that the FG640 sends (R184). -/
def TxFrame.bytes (f : TxFrame) : List Byte := encodeFrame f.kind f.header f.body

/-- The bytes being sent on the line to the host, while the FG640 operates (R173, R190). -/
def Device.sending (d : Device) : Option (List Byte) := if d.up then d.link.tx.map TxFrame.bytes else none

end Sys2Proof.Machine
end

