-- ==== Sys2Proof/Safety.lean ====
section
/-! DEFINITION. The terms in which the statements speak: the part of the device that reactions at the end of an event never
touch, when a request is taken and how it is answered, and the laws that the manual states of every state. -/

namespace Sys2Proof.Machine

/-! ### What the end of an event leaves alone -/

/-- A zone without the flags that zone logic holds for other blocks (R55). -/
def Zone.base (r : Zone) : Zone := { r with callWaiting := false, callEscalated := false, noRoute := false, avoid := false }

/-- A door without what follows from the demands of LIFE, RULE and INTRUSION: the drive, the condition and its timers. -/
def Door.base (r : Door) : Door :=
  { r with
    demands := { r.demands with life := none, rule := none, intrusion := none }
    drive := r.kind.rest, level := .rest, condition := none, confirm := none, held := none }

/-- A rule entry without its outcome: its configuration. -/
def Rule.base (r : Rule) : Rule := { r with outcome := .off }

/-- A call without its priority and without the difference of WAITING and ESCALATED. -/
def Call.base (c : Call) : Call :=
  { c with priority := .normal, state := match c.state with | .claimed s => .claimed s | _ => .escalated }

/-- A sign without its blank marks and shown state: its configuration. -/
def Sign.base (r : Sign) : Sign := { r with blank := Vector.replicate 4 false, shown := Vector.replicate 6 .dark }

/-- The link controller without its queues and the frame on the line. -/
def Link.base (l : Link) : Link := { l with replies := [], reports := [], gapMark := false, tx := none }

/-- The device without what the end of an event may move: two devices of one base agree in inputs, time base, supervision,
points, classes, loops, fire and security states, alarm hold, regime, limits, passages, published plan, call identities and
owners, STATION and TIMETABLE demands, node observations, every table's configuration and the link controller's state. -/
def Device.base (d : Device) : Device :=
  { d with
    link := d.link.base
    zones := Tab.map (Option.map Zone.base) d.zones
    sounders := Vector.replicate 16 {}
    doors := Tab.map (Option.map Door.base) d.doors
    doorLine := { d.doorLine with early := Vector.replicate 32 false }
    rules := Tab.map (Option.map Rule.base) d.rules
    relays := Vector.replicate 16 false
    board := { d.board with calls := d.board.calls.map Call.base }
    route := { d.route with engine := .idle, rerun := false, stale := false }
    signs := Tab.map (Option.map Sign.base) d.signs
    groups := Tab.map (fun g => { g with state := .run }) d.groups
    signLine := { d.signLine with early := Vector.replicate 64 false } }

/-! ### Requests (R172, R173, R178) -/

/-- The link controller takes a complete frame from the station of slot `k`: the FG640 operates, no COMMIT is in flight, no
RESTART awaits its warm restart, and fewer than four replies wait (R172, R173, R190, R191). -/
def Device.listens (d : Device) (h : Header) (k : Nat) : Prop :=
  d.up = true ∧ d.link.discards = false ∧ d.link.commit = none ∧ slotOf h.station = some k

/-- The device with a complete frame taken: the receiver hunts on and the station's slot is emptied (R171, R178). -/
def Device.heard (d : Device) (k : Nat) : Device := d.updLink fun l => l.hunted.consume k

/-- From `a` to `b` the reply `r` joined the reply list, and a free line took the oldest waiting reply (R173); that it leaves
the list as its sending begins is the model's choice (log 45), of every statement that says `Answers` or `answered`. -/
def Answered (a b : Device) (r : Reply) : Prop :=
  (a.link.tx ≠ none → b.link.tx = a.link.tx ∧ b.link.replies = a.link.replies ++ [r]) ∧
  (a.link.tx = none → ∃ q qs, a.link.replies ++ [r] = q :: qs ∧ b.link.tx = some (.reply q) ∧ b.link.replies = qs)

/-- The station's request is taken and not refused with AUTONOMOUS: `listens` in mode LINKED. -/
def Device.hears (d : Device) (h : Header) (k : Nat) : Prop := d.listens h k ∧ d.isAutonomous = false

/-- The device with its supervision unit replaced. -/
def Device.withSup (d : Device) (p : Supervision) : Device := { d with sup := p }

/-- The count in prefix slot `k` (R178). -/
def Device.slot (d : Device) (k : Nat) : Option Nat := Tab.getD d.link.slots k none

/-- What a range-capable request from slot `k` with index `i` acts on: the index alone, or the run of the slot's count, cut
at the last index of the table (R178). -/
def Device.runOf (d : Device) (k i last : Nat) : List Nat :=
  match d.slot k with
  | none => [i]
  | some n => runFrom i n last

/-- The device with a reply formed and a free line taken: all that a request does to a device it leaves as it is (R173). -/
def Device.answered (d : Device) (kind : Byte) (h : Header) (st : Status) (c : Content := .none) : Device :=
  (d.reply kind h st c).transmit

/-- From `s` to `t` the request of this kind and header was answered, and the waiting commands are as they were. -/
def Answers (s t : State) (kind : Byte) (h : Header) (st : Status) (c : Content := .none) : Prop :=
  t.pending = s.pending ∧ Answered s.dev t.dev { kind := replyKind kind, header := h, status := st, content := c }

/-- The body lengths that a request kind allows (the last table of section 10.8, R184). -/
def allowedLengths (kind : Byte) : List Nat :=
  match kind.toNat with
  | 0x01 | 0x02 | 0x04 | 0x05 | 0x19 | 0x1A | 0x21 | 0x25 | 0x26 => [0]
  | 0x03 | 0x06 | 0x07 | 0x20 | 0x22 | 0x23 | 0x24 | 0x27 | 0x28 | 0x29 | 0x2A | 0x2B => [1]
  | 0x2E | 0x2F | 0x30 | 0x31 | 0x32 | 0x33 => [1]
  | 0x08 => [1, 2, 3]
  | 0x10 => [9]
  | 0x11 => [5]
  | 0x12 => [11]
  | 0x13 => [6]
  | 0x14 => [7]
  | 0x15 => [10]
  | 0x16 | 0x18 | 0x2D => [2]
  | 0x17 => [12]
  | 0x2C => [4]
  | _ => []

/-- RESUME, QUERY, PULSE_A and PULSE_B: the requests that mode AUTONOMOUS does not refuse (R188). -/
def answeredInAutonomous (kind : Byte) : Bool :=
  kind == 0x01 || kind == 0x02 || kind == 0x04 || kind == 0x08

/-! ### Calls (R127, R130) -/

/-- `n` is the number that a new call takes: the counter's, or the first after it, through the wrap, that no call holds
(R127). -/
def NextFree (used : List Nat) (counter n : Nat) : Prop :=
  n ∉ used ∧ ∃ i, n = (counter + i) % 256 ∧ ∀ j, j < i → (counter + j) % 256 ∈ used

/-- The priority that a call of this kind and zone has (R130). -/
def Device.rank (d : Device) (kind : CallKind) (zone : Nat) : Priority :=
  if (kind = .refuge ∧ d.anyAlarm = true) ∨
      (kind = .help ∧ ((d.fire zone).hot = true ∨ d.zoneFlag zone .noRoute = true)) then .urgent
  else .normal

/-! ### The rule table (R107 to R124) -/

/-- Some ON entry has this effect: the ON set of its target holds such an entry (R117). -/
def Device.asserts (d : Device) (x : Effect) : Prop := ∃ e r, d.rule? e = some r ∧ r.outcome = .on ∧ r.effect = x

/-- No operand of the entry is the flag AVOID, which LOAD_RULE refuses (R108, R110). -/
def Rule.readable (r : Rule) : Prop := ∀ z, r.a ≠ .zone z .avoid ∧ r.b ≠ .zone z .avoid

/-- The outcome that an entry judged from OFF takes (R114). -/
def Rule.fresh (r : Rule) (truth : Bool) (now : Seconds) : RuleOutcome :=
  if truth then (if r.delay = 0 then .on else .delaying ⟨now, r.delay⟩) else .off

/-! ### Restarts (R20, R62, R79, R103, R124, R138, R155, R163, R170) -/

/-- A point's record with its runtime values at a successful COMMIT or a warm restart (R20). -/
def Point.restarted (p : Point) : Point :=
  { p with
    condition := .normal, health := .ok, held := 0, misses := 0, clearMark := false
    arith := p.arith.map fun a => { a with confirm := 0, ring := [] } }

/-- What `b` holds of its zones and circuits after a restart that found `a` (R62, R79, R119, R124, R138, R155). -/
def ZonesRestarted (a b : Device) : Prop :=
  (∀ z r, a.zone? z = some r → ∃ r', b.zone? z = some r' ∧ (r'.avoid = true ↔ b.asserts (.avoid z)) ∧
    r' = { r with
      fire := .quiet, preCount := 0, activeCount := 0, faultCount := 0, openContacts := 0, openCases := 0
      security := if b.isRunning && r.policy.activeIn a.regime then .armed else .off
      callWaiting := false, callEscalated := false, noRoute := false, avoid := r'.avoid }) ∧
  (∀ c, c < 16 → ((b.sounder c).request = true ↔ b.asserts (.sounder c)) ∧
    (b.sounder c).state = if (b.sounder c).request then .sounding else .quiet) ∧
  (∀ k, k < 16 → (Tab.getD b.relays k false = true ↔ b.asserts (.relay k)))

/-- What `b` holds of its doors after a restart that found `a` (R103): nothing heard and no timer but the watch; in RUNNING the
TIMETABLE demand kept, STATION gone, the built-in demands of QUIET zones, the RULE demand of the ON entries, and the
drive of the highest; in COMMISSIONING demands and drive held (log 18). -/
def DoorsRestarted (a b : Device) : Prop :=
  ∀ n r, a.door? n = some r → ∃ r', b.door? n = some r' ∧
    r' = { r with
      leaf := none, lock := none, health := .ok, condition := none, confirm := none, held := none, shunt := none
      watch := some ⟨a.clock, 3⟩, demands := r'.demands, drive := r'.drive, level := r'.level } ∧
    (b.isRunning = false → r'.demands = r.demands ∧ r'.drive = r.drive ∧ r'.level = r.level) ∧
    (b.isRunning = true →
      r'.demands = {
        life := none, rule := r'.demands.rule, station := none
        intrusion := if r.kind ≠ .fireLeaf ∧ r.nightLock = true ∧ a.regime = .night then some .lock else none
        timetable := r.demands.timetable } ∧
      (r'.demands.rule = none ↔ ∀ v, ¬b.asserts (.door n v)) ∧ (∀ v, r'.demands.rule = some v → b.asserts (.door n v)) ∧
      (r'.drive, r'.level) = r'.demands.top r'.kind)

/-- What `b` holds of its rule entries after a restart that found `a` (R124): every live entry judged from OFF on the flags
as the event left them, every other OFF. -/
def RulesRestarted (a b : Device) : Prop :=
  ∀ e r, a.rule? e = some r → ∃ r', b.rule? e = some r' ∧ r' = { r with outcome := r'.outcome } ∧
    (b.live e = false → r'.outcome = .off) ∧
    (b.live e = true → r.readable → r'.outcome = r.fresh (b.truth r) b.clock)

/-- What `b` holds of its signs after a restart that found `a` (R163, R170): every sign at its safe default, groups in RUN,
and no blank mark but by an ON entry that acts on a door or a zone (log 40). -/
def SignsRestarted (a b : Device) : Prop :=
  (∀ g, g < 8 → b.group g = { a.group g with state := .run }) ∧
  (∀ n r, a.sign? n = some r → ∃ r', b.sign? n = some r' ∧
    r' = { r with blank := r'.blank, shown := b.safeDefault r } ∧
    ∀ k, Tab.getD r'.blank k false = true → (∃ z, b.asserts (.avoid z)) ∨ ∃ n v, b.asserts (.door n v))

/-- The sign line goes on from `a` to `b`, where signs show their safe default: the send under way and the place in the round
stay, and the early sends are those of before and the signs whose shown state changed (R160, log 21). -/
def SendsGoOn (a b : Device) : Prop :=
  b.signLine = { a.signLine with early := b.signLine.early } ∧
  ∀ n, n < 64 → (Tab.getD b.signLine.early n false = true ↔
    Tab.getD a.signLine.early n false = true ∨ ∃ r, a.sign? n = some r ∧ r.shown ≠ b.safeDefault r)

/-- What `b` holds of the door line and the sign line after a restart that found `a`: they go on (R82, R160, log 21). The early
exchanges are those of before and, in RUNNING, of the doors whose drive the restart or the rule evaluation changed. -/
def LinesRestarted (a b : Device) : Prop :=
  b.doorLine = { a.doorLine with early := b.doorLine.early } ∧
  (∀ n, n < 32 → (Tab.getD b.doorLine.early n false = true ↔
    Tab.getD a.doorLine.early n false = true ∨ (b.isRunning = true ∧ ∃ r r', a.door? n = some r ∧ b.door? n = some r' ∧
      let drive := ({ r'.demands with rule := none }.top r'.kind).1
      (drive ≠ r.drive ∨ r'.drive ≠ drive)))) ∧
  SendsGoOn a b

/-- What `b` holds after a successful COMMIT or a warm restart that found `a`: the configuration of `a` and the runtime
values that each chapter gives, with what the fresh rule evaluation then asserts. -/
def Restarted (a b : Device) : Prop :=
  (b.inputs, b.clock, b.classes, b.regime, b.daySlots, b.nightSlots, b.passages) =
    (a.inputs, a.clock, a.classes, a.regime, a.daySlots, a.nightSlots, a.passages) ∧
  b.mainsFail = a.inputs.mainsFailed ∧ b.alarmHold = none ∧ b.board = {} ∧ b.route.plan = none ∧
  b.route.planNumber = a.route.planNumber ∧ b.route.discards = a.route.discards ∧
  (b.route.engine = .idle ↔ b.isRunning = false) ∧ b.route.rerun = false ∧ b.route.stale = false ∧
  (∀ p, b.point p = (a.point p).restarted) ∧
  (∀ l, l < 4 → b.loop l = match firstFrom 64 0 (a.configured l) with
    | some x => { sweep := some x, exchange := some (.sweep x) }
    | none => {}) ∧
  ZonesRestarted a b ∧ DoorsRestarted a b ∧ RulesRestarted a b ∧ SignsRestarted a b ∧ LinesRestarted a b

/-! ### The laws -/

/-- R84: in RUNNING a door's LIFE demand is the built-in one, and its drive and level are those of its highest demand
(R83). -/
def LifeLaw (d : Device) : Prop :=
  d.isRunning = true → ∀ n r, d.door? n = some r →
    (r.kind = .egress → r.demands.life = if d.doorTouches n Fire.isAlarm then some .unlock else none) ∧
    (r.kind = .fireLeaf → r.demands.life = if d.doorTouches n Fire.hot then some .close else none) ∧
    (r.kind = .strongroom → r.demands.life = none) ∧
    (r.drive, r.level) = r.demands.top r.kind

/-- R167: no sign group is in TEST while any zone's fire state is VERIFY or ALARM. -/
def TestLaw (d : Device) : Prop := d.anyHot = true → ∀ g, g < 8 → (d.group g).inTest = false

/-- R126, R127, R129, R136, R138: the call queue, the pending list and the two counters. -/
def CallLaw (d : Device) : Prop :=
  d.board.calls.length ≤ callCapacity ∧ d.board.callCounter < 256 ∧ d.board.arrivalCounter < 65536 ∧
  (d.board.calls.map (·.point)).Nodup ∧ (d.board.calls.map (·.number)).Nodup ∧ d.board.waitingPoints.Nodup ∧
  (∀ c ∈ d.board.calls, c.point < 256 ∧ c.point ∉ d.board.waitingPoints) ∧
  (∀ p ∈ d.board.waitingPoints, p < 256) ∧
  (d.board.waitingPoints ≠ [] → d.board.calls.length = callCapacity) ∧
  (∀ s, d.board.owned s ≤ claimLimit) ∧
  (d.isAutonomous = true → ∀ c ∈ d.board.calls, ∀ s, c.state ≠ .claimed s) ∧
  (d.isRunning = false → d.board.calls = [] ∧ d.board.waitingPoints = [])

/-- R174: the report queue holds at most 32 reports and at most one for each pair of kind and object. -/
def ReportLaw (d : Device) : Prop :=
  d.link.reports.length ≤ reportCapacity ∧ d.link.reports.Pairwise fun r q => r.same q = false

/-- R179, R180: a COMMIT is in flight in COMMISSIONING alone. -/
def CommitLaw (d : Device) : Prop := d.link.commit ≠ none → d.isRunning = false

/-- R113: an entry that is not live is OFF; in particular one outside the active range. -/
def RuleLaw (d : Device) : Prop := ∀ e r, d.rule? e = some r → d.live e = false → r.outcome = .off

/-- R33: a SMOKE point's baseline lies within its class's drift limit; an unlearnt baseline is 0 (R1). -/
def BaselineLaw (d : Device) : Prop :=
  ∀ p a, (d.point p).kind = .smoke → (d.point p).arith = some a →
    (a.learnt = false → a.baseline = 0) ∧
    ∀ c, d.class? (d.point p).cls = some c → a.baseline ≤ 256 * c.l

/-- R21, R61, R78, R123, R154: in COMMISSIONING every point is NORMAL, every zone QUIET and OFF with counts 0, no hold runs,
every circuit is QUIET, every relay RELEASED and the route engine is IDLE without a plan. -/
def QuietLaw (d : Device) : Prop :=
  d.isRunning = false →
    (∀ p, (d.point p).condition = .normal) ∧
    (∀ z r, d.zone? z = some r → r.fire = .quiet ∧ r.security = .off ∧ r.preCount = 0 ∧ r.activeCount = 0 ∧
      r.openContacts = 0 ∧ r.openCases = 0) ∧
    d.alarmHold = none ∧ (∀ c, (d.sounder c).state = .quiet) ∧ (∀ k, Tab.getD d.relays k false = false) ∧
    d.route.engine = .idle ∧ d.route.plan = none

/-- R13, R15: each confirm queue holds at most four addresses, none twice, each of a SMOKE or HEAT point of its loop. -/
def ConfirmLaw (d : Device) : Prop :=
  ∀ l, l < 4 →
    (d.loop l).confirmQueue.length ≤ confirmCapacity ∧ (d.loop l).confirmQueue.Nodup ∧
    (∀ a ∈ (d.loop l).confirmQueue, a < 64 ∧ ((d.point (pointOf l a)).kind = .smoke ∨ (d.point (pointOf l a)).kind = .heat)) ∧
    (∀ x, (d.loop l).exchange = some x → x.addr < 64)

/-- R88: in RUNNING a door's INTRUSION demand is the built-in one. -/
def IntrusionLaw (d : Device) : Prop :=
  d.isRunning = true → ∀ n r, d.door? n = some r → r.demands.intrusion =
    if r.kind ≠ .fireLeaf ∧ ((r.nightLock = true ∧ d.regime = .night) ∨
      (r.kind = .strongroom ∧ d.zoneFlag r.zone .intruder = true)) then some .lock else none

/-- R135: in RUNNING the two call flags of a zone are those of its calls. -/
def CallFlagLaw (d : Device) : Prop :=
  d.isRunning = true → ∀ z r, d.zone? z = some r →
    (r.callWaiting = true ↔ ∃ c ∈ d.board.calls, c.zone = z ∧ ∀ owner, c.state ≠ .claimed owner) ∧
    (r.callEscalated = true ↔ ∃ c ∈ d.board.calls, c.zone = z ∧ c.state = .escalated)

/-- R130: in RUNNING every call has the priority of its kind and zone. -/
def RankLaw (d : Device) : Prop := d.isRunning = true → ∀ c ∈ d.board.calls, c.priority = d.rank c.kind c.zone

/-- R57, R85, R117, R118, R119: while the FG640 operates in RUNNING every target receives what its ON set asks: the RULE
demand of a door, the request of a circuit, which is QUIET without one, a relay and a zone's AVOID flag. -/
def TargetLaw (d : Device) : Prop :=
  d.up = true → d.isRunning = true →
    (∀ n r, d.door? n = some r →
      (r.demands.rule = none ↔ ∀ v, ¬d.asserts (.door n v)) ∧
      ∀ v, r.demands.rule = some v → d.asserts (.door n v) ∧
        (v = .lock → ¬d.asserts (.door n .unlock)) ∧ (v = .holdOpen → ¬d.asserts (.door n .close))) ∧
    (∀ c, c < 16 → ((d.sounder c).request = true ↔ d.asserts (.sounder c)) ∧
      ((d.sounder c).request = false → (d.sounder c).state = .quiet)) ∧
    (∀ k, k < 16 → (Tab.getD d.relays k false = true ↔ d.asserts (.relay k))) ∧
    (∀ z r, d.zone? z = some r → (r.avoid = true ↔ d.asserts (.avoid z)))

/-- R113, R114: the outcome of a live entry stands with its present truth: never OFF while it is true, and while it is
false ON by its latch alone, or OFF. -/
def SettledLaw (d : Device) : Prop :=
  ∀ e r, d.rule? e = some r → d.live e = true → r.readable →
    (d.truth r = true → r.outcome ≠ .off ∧ (r.delay = 0 → r.outcome = .on)) ∧
    (d.truth r = false → r.outcome = .off ∨ (r.outcome = .on ∧ r.latch = true))

/-- How many points satisfy a condition. -/
def Device.countPoints (d : Device) (f : Point → Bool) : Nat := (List.range 256).countP fun p => f (d.point p)

/-- R19, R40, R43, R65: an ABSENT point holds R19's values, and the counts of every zone are the numbers of its points. -/
def CountLaw (d : Device) : Prop :=
  (∀ p, (d.point p).kind = .absent → d.point p = {}) ∧
  ∀ z r, d.zone? z = some r →
    r.preCount = d.countPoints (fun p => isFireKind p.kind && p.zone == z && p.condition == .pre) ∧
    r.activeCount = d.countPoints (fun p => isFireKind p.kind && p.zone == z && p.condition == .active) ∧
    r.faultCount = d.countPoints (fun p => p.kind != .absent && p.zone == z && p.health != .ok) ∧
    r.openContacts = d.countPoints (fun p => p.kind == .contact && p.zone == z && p.condition == .active) ∧
    r.openCases = d.countPoints (fun p => p.kind == .case && p.zone == z && p.condition == .active)

/-- R4, R5: while the FG640 operates, a loop with a configured point has an exchange in flight. -/
def LoopLaw (d : Device) : Prop :=
  d.up = true → ∀ l a, l < 4 → a < 64 → d.configured l a = true → (d.loop l).exchange ≠ none

/-- R190: while the FG640 does not operate it sends no frame, polls no loop, door or sign and drives no output. -/
def OffLaw (d : Device) : Prop :=
  d.up = false →
    d.link.tx = none ∧ d.link.rx = [] ∧ (∀ l, (d.loop l).exchange = none) ∧ d.doorLine.exchange = none ∧
    d.signLine.sending = none ∧ (∀ c, (d.sounder c).state = .quiet) ∧ (∀ k, Tab.getD d.relays k false = false)

/-- The zone is loaded and blocked for routes (R142). -/
def Device.blocked (d : Device) (z : Nat) : Bool := (d.zone? z).any fun r => r.fire.isAlarm || r.avoid

/-- The door is loaded, lockable and not commanded to unlock, so that its passage is not usable (R100). -/
def Device.shut (d : Device) (n : Nat) : Bool := (d.door? n).any fun r => r.kind.lockable && r.drive != .unlock

/-- An arrow bound to passage `p` in a sign of zone `z` leads into a blocked zone or through a door that is not usable
(R152, R162). -/
def Device.leadsAstray (d : Device) (z p : Nat) : Prop :=
  ∃ q, d.passage? p = some q ∧ q.touches z = true ∧
    (d.blocked (q.far z) = true ∨ ∃ n, q.door = some n ∧ d.shut n = true)

/-- R152, R160, R162: every loaded sign shows what its group and the plan ask, an arrow of the published plan that leads
into a block is blanked, and the snapshot of a pass without the stale mark knows every block. -/
def SignLaw (d : Device) : Prop :=
  (∀ n r, d.sign? n = some r → r.shown = d.shownFor r) ∧
  (∀ n r e x k, d.sign? n = some r → d.planEntry? r.zone = some e → e.next = some x → k < 4 →
    Tab.get? r.bindings k = some x.passage → d.leadsAstray r.zone x.passage → Tab.getD r.blank k false = true) ∧
  (∀ s, d.route.engine = .computing (some s) → d.route.stale = false →
    (∀ z, d.blocked z = true → (s.zone? z).any (·.blocked) = true) ∧
    (∀ n, n < 32 → d.passageNames n = true → d.shut n = true → Tab.getD s.doorUsable n true = false))

/-- R151: what a published plan satisfies of the zones and passages it was computed from. -/
def PlanLaw (s : Snapshot) (passages : Vector (Option Passage) 96) (w : WorkingPlan) : Prop :=
  ∀ z v, s.zone? z = some v → ∃ e, Tab.get? w.entries z = some e ∧
    (v.exit = true → e.distance = 0 ∧ e.next = none) ∧
    (v.exit = false →
      (e.distance = unreachable ∧ e.next = none) ∨
      ∃ n q f, e.next = some n ∧ Tab.get? passages n.passage = some q ∧ s.usable q z (q.far z) = true ∧
        Tab.get? w.entries (q.far z) = some f ∧ n.cost = s.stepCost q (q.far z) ∧
        e.distance = n.cost + f.distance ∧ e.distance ≤ 4094)

/-- The snapshot is one of these zones: it holds the loaded ones, knows which are EXIT, and its penalties are those of R142
(R142, R144). -/
def Device.seenBy (d : Device) (s : Snapshot) : Prop :=
  ∀ z, (s.zone? z).map (·.exit) = (d.zone? z).map (fun r => r.kind == .exit) ∧
    ∀ v, s.zone? z = some v → v.penalty = 0 ∨ v.penalty = 64

/-- R144, R151, R154: in COMMISSIONING the route engine is IDLE without a plan; the snapshot of a pass in flight is one of the
zones as they are loaded, and the published plan has the law of R151 for such a snapshot. -/
def PublishedLaw (d : Device) : Prop :=
  (d.isRunning = false → d.route.plan = none ∧ d.route.engine = .idle) ∧
  (∀ s, d.route.engine = .computing (some s) → d.seenBy s) ∧
  ∀ p, d.route.plan = some p → ∃ s, d.seenBy s ∧ PlanLaw s d.passages p.work

end Sys2Proof.Machine
end

