-- ==== Sys2Proof/Certificates/Slice0/Obligations.lean ====
section
/-! DEFINITION. The statements for the provers. Each docstring names the rules of spec/ that its statement is about; a
clause that is the model's own choice names its log entry; that a reply leaves the reply list as its sending begins (log 45)
is the model's choice in every statement that says `Answers`, `Answered` or `answered`. -/

open Sys2Proof Sys2Proof.Machine

/-! ### The queue of commands, frames and the steps that judge them (Chapter 10) -/

/-- A step takes the command at the front of the queue and runs it with the queue's rest; every command answers a next
state and leaves the waiting commands; on an empty queue the step idles (the model's choice, log 1). -/
def Obligations.StepRunsFront : Prop :=
  (∀ (c : Instr) (s : State), step { s with pending := c :: s.pending } = exec c s) ∧
  (∀ (c : Instr) (s : State), ∃ t, exec c s = .next t ∧ t.pending = s.pending) ∧
  (∀ s : State, s.pending = [] → step s = .next s)

/-- R171, R173, R184: the bytes of a request's frame, followed by any others, are read as that frame, and the frame as that
request's row, where a QUERY that names no query code is the QUERY_STATUS row's (log 11). A frame that the FG640 sends is
built in the same way: a report's with kind, station and tag of R184, its state's length before its state, a reply's
with the status first, alone when there is no content; the bytes of a state and of a content that R184 does not lay out
are free values (log 25). -/
def Obligations.FramesRoundTrip : Prop :=
  (∀ (i : Instr) (kind : Byte) (h : Header) (body rest : List Byte), i.wellFormed = true → frameOf i = some (kind, h, body) →
    scanFrame (encodeFrame kind h body ++ rest) = .complete kind h body rest ∧ commandOf kind h body = i) ∧
  (∀ (f : TxFrame) (rest : List Byte), scanFrame (f.bytes ++ rest) = .complete f.kind f.header f.body rest) ∧
  (∀ r : Report, ∃ state : List Byte, state.length ≤ 32 ∧ TxFrame.bytes (.report r) = encodeFrame 0x40 ⟨15, 0⟩
    ([BitVec.ofNat 8 r.cls.code, BitVec.ofNat 8 r.state.code, BitVec.ofNat 8 r.object, if r.gap then 1 else 0,
      r.stamp.extractLsb' 24 8, r.stamp.extractLsb' 16 8, r.stamp.extractLsb' 8 8, r.stamp.extractLsb' 0 8,
      BitVec.ofNat 8 state.length] ++ state)) ∧
  (∀ r : Reply, ∃ more : List Byte, TxFrame.bytes (.reply r) = encodeFrame r.kind r.header (r.status.code :: more) ∧
    (r.content = .none → more = []) ∧
    (∀ table index, r.content = .checkFailed table index → more = [BitVec.ofNat 8 table, BitVec.ofNat 8 index])) ∧
  (∀ d : Device, d.sending = if d.up = true then d.link.tx.map TxFrame.bytes else none)

/-- R171: a discarded frame changes nothing but the receiver, which hunts on from the byte after the frame's start byte: it
keeps the longest tail of the frame that begins a frame not yet known to be bad; after a timeout, only a complete one. -/
def Obligations.ReceiverHuntsAgain : Prop :=
  ∀ (s : State) (bytes : List Byte), s.dev.up = true → ∀ timeout : Bool,
    ∃ rx : List Byte,
      exec (if timeout then .frameByteTimeout bytes else .frameDiscard bytes) s =
        s.after ({ s.dev with link := { s.dev.link with rx := rx } }) ∧
      rx <:+ bytes.tail ∧
      (rx ≠ [] → rx.head? = some startByte ∧ scanFrame rx ≠ .bad ∧ (timeout = true → scanFrame rx ≠ .incomplete)) ∧
      ∀ u : List Byte, u <:+ bytes.tail → u.head? = some startByte → scanFrame u ≠ .bad →
        (timeout = true → scanFrame u ≠ .incomplete) → u.length ≤ rx.length

/-- R172 steps 1 to 4, R173, R190, R191: while the FG640 does not operate a frame has no effect; a frame that completes while
four replies wait or a RESTART awaits its warm restart moves the receiver alone; while a COMMIT is in flight every frame but
RESTART is answered BUSY; then an unknown kind, a station that is none, and a body length that the kind does not allow are
refused. Each leaves the prefix slots and all else as they are. That a reply whose sending has begun is not one of the four is
the model's choice (log 45). -/
def Obligations.FramesTurnedAway : Prop :=
  ∀ (i : Instr) (s : State) (kind : Byte) (h : Header) (body : List Byte), frameOf i = some (kind, h, body) →
    (s.dev.up = false → exec i s = .next s) ∧
    (s.dev.up = true → s.dev.link.discards = true →
      exec i s = s.after (s.dev.updLink Link.hunted)) ∧
    (s.dev.up = true → s.dev.link.discards = false → s.dev.link.commit ≠ none → (∀ b, i ≠ .restart h b) →
      exec i s = s.after ((s.dev.updLink Link.hunted).answered kind h .busy)) ∧
    (s.dev.up = true → s.dev.link.discards = false → s.dev.link.commit = none →
      (i = .unknownKind kind h body →
        exec i s = s.after ((s.dev.updLink Link.hunted).answered kind h .unknownKind)) ∧
      (i ≠ .unknownKind kind h body → slotOf h.station = none →
        exec i s = s.after ((s.dev.updLink Link.hunted).answered kind h .badStation)) ∧
      (i ≠ .unknownKind kind h body → slotOf h.station ≠ none → body.length ∉ allowedLengths kind →
        exec i s = s.after ((s.dev.updLink Link.hunted).answered kind h .badValue)))

/-- R172 steps 5 and 6, R178, R179, R188 and the operating-state sentence of each request: a taken request empties its own
station's slot and leaves the others, and only RANGE stores a count; the requests that mode AUTONOMOUS refuses, those
that RUNNING refuses and those that COMMISSIONING refuses move nothing but the prefix slot, the receiver and the reply. That the
operating state is judged before the indices and values of a body, so that BAD_STATE is answered whatever it holds, is
the model's reading (log 19). -/
def Obligations.TakenRequests : Prop :=
  ∀ (i : Instr) (s : State) (kind : Byte) (h : Header) (body : List Byte) (k : Nat), frameOf i = some (kind, h, body) →
    i ≠ .unknownKind kind h body → s.dev.listens h k → body.length ∈ allowedLengths kind →
    (∃ t, exec i s = .next t ∧ (∀ j, j ≠ k → t.dev.slot j = s.dev.slot j) ∧
      (i ≠ .range h body → t.dev.slot k = none) ∧
      (i = .range h body → s.dev.isAutonomous = false → ∃ n, 1 ≤ n ∧ n ≤ 64 ∧ t.dev.slot k = some n)) ∧
    (s.dev.isAutonomous = true → answeredInAutonomous kind = false →
      exec i s = s.after ((s.dev.heard k).answered kind h .autonomous)) ∧
    (s.dev.isAutonomous = false → s.dev.isRunning = true →
      kind.toNat ∈ [0x10, 0x11, 0x12, 0x13, 0x14, 0x15, 0x16, 0x17, 0x18, 0x19] →
      exec i s = s.after ((s.dev.heard k).answered kind h .badState)) ∧
    (s.dev.isAutonomous = false → s.dev.isRunning = false →
      kind.toNat ∈ [0x1A, 0x21, 0x22, 0x23, 0x24, 0x25, 0x26, 0x27, 0x28, 0x29, 0x2C, 0x2D, 0x2E, 0x2F, 0x30, 0x31, 0x32, 0x33] →
      exec i s = s.after ((s.dev.heard k).answered kind h .badState))

/-- R174, R175, R176: how a report joins the queue, what an overflow drops, and which report a free line sends when no reply
waits. -/
def Obligations.ReportQueue : Prop :=
  (∀ (l : Link) (r : Report), l.masks.has r.cls = true → l.queue r = l) ∧
  (∀ (l : Link) (r : Report) (pre post : List Report) (x : Report), l.masks.has r.cls = false →
    l.reports = pre ++ x :: post → r.same x = true → (∀ q ∈ pre ++ post, r.same q = false) →
      l.queue r = { l with reports := pre ++ r :: post }) ∧
  (∀ (l : Link) (r : Report), l.masks.has r.cls = false → (∀ q ∈ l.reports, r.same q = false) →
    (l.reports.length < 32 → l.queue r = { l with reports := l.reports ++ [r] }) ∧
    (l.reports.length = 32 →
      (∀ pre post x, l.reports = pre ++ x :: post → (∀ q ∈ pre, q.cls = .fire) → x.cls ≠ .fire →
        l.queue r = { l with reports := pre ++ post ++ [r], gapMark := true }) ∧
      ((∀ q ∈ l.reports, q.cls = .fire) → r.cls = .fire →
        l.queue r = { l with reports := l.reports.drop 1 ++ [r], gapMark := true }) ∧
      ((∀ q ∈ l.reports, q.cls = .fire) → r.cls ≠ .fire → l.queue r = { l with gapMark := true }))) ∧
  (∀ (s : State) (f : TxFrame), s.dev.up = true → s.dev.link.tx = some f → s.dev.link.restartReplySent = false →
    (s.dev.link.replies = [] → ∀ r rs, s.dev.link.reports = r :: rs →
      exec .frameSent s = s.after ({ s.dev with link := { s.dev.link with
        tx := some (.report { r with gap := s.dev.link.gapMark }), reports := rs, gapMark := false } })) ∧
    (s.dev.link.replies = [] → s.dev.link.reports = [] →
      exec .frameSent s = s.after ({ s.dev with link := { s.dev.link with tx := none } })))

/-! ### Supervision (Chapter 11) and the link requests -/

/-- R176, R178, R186, R187, R189: PULSE_A sets the last pulse; a PULSE_B after it refreshes the timer in LINKED;
SUPERVISE_SET chooses the interval once, while the lock is open; RESUME makes the mode LINKED with a fresh timer and tells the
stamp and the seconds spent, and in LINKED it is refused; RANGE stores its clamped count in the station's slot;
REPORT_MASK replaces the masks unless its set names FIRE or CALL. R173: where a frame has been sent, the oldest waiting reply
goes next; that it leaves the list then is the model's choice (log 45). -/
def Obligations.LinkRequests : Prop :=
  (∀ (s : State) (f : TxFrame) (r : Reply) (rs : List Reply), s.dev.up = true → s.dev.link.tx = some f →
    s.dev.link.restartReplySent = false → s.dev.link.replies = r :: rs →
    exec .frameSent s = s.after ({ s.dev with link := { s.dev.link with tx := some (.reply r), replies := rs } })) ∧
  (∀ (s : State) (h : Header) (k : Nat),
    (s.dev.listens h k →
      exec (.pulseA h []) s = s.after (
        ((s.dev.heard k).withSup { s.dev.sup with lastPulse := .pulseA }).answered 0x01 h .ok) ∧
      (s.dev.sup.lastPulse = .pulseA → s.dev.isAutonomous = false →
        exec (.pulseB h []) s = s.after (
          ((s.dev.heard k).withSup { s.dev.sup with lastPulse := .pulseB, mode := .linked ⟨s.dev.clock, s.dev.sup.interval⟩ }).answered 0x02 h .ok (.refreshed true))) ∧
      (s.dev.sup.lastPulse ≠ .pulseA ∨ s.dev.isAutonomous = true →
        exec (.pulseB h []) s = s.after (
          ((s.dev.heard k).withSup { s.dev.sup with lastPulse := .pulseB }).answered 0x02 h .ok (.refreshed false)))) ∧
    (s.dev.hears h k → ∀ x : Byte,
      (s.dev.sup.locked = true →
        exec (.superviseSet h [x]) s = s.after ((s.dev.heard k).answered 0x03 h .locked)) ∧
      (s.dev.sup.locked = false → 4 ≤ x.toNat →
        exec (.superviseSet h [x]) s = s.after ((s.dev.heard k).answered 0x03 h .badValue)) ∧
      (s.dev.sup.locked = false → ∀ n, (x.toNat, n) ∈ [(0, 5), (1, 10), (2, 30), (3, 60)] →
        exec (.superviseSet h [x]) s = s.after (
          ((s.dev.heard k).withSup { s.dev.sup with interval := n, locked := true, mode := .linked ⟨s.dev.clock, n⟩ }).answered 0x03 h .ok))) ∧
    (s.dev.listens h k →
      (∀ x, s.dev.sup.mode = .autonomous x →
        ∃ t, exec (.resume h []) s = .next t ∧
          Answers s t 0x04 h .ok (.resumed x (s.dev.clock - x).toNat) ∧
          t.dev.base = ((s.dev.heard k).withSup { s.dev.sup with mode := .linked ⟨s.dev.clock, s.dev.sup.interval⟩ }).base) ∧
      (∀ x, s.dev.sup.mode = .linked x →
        exec (.resume h []) s = s.after ((s.dev.heard k).answered 0x04 h .badState)))) ∧
  (∀ (s : State) (h : Header) (k : Nat) (x : Byte), s.dev.hears h k →
    (1 ≤ x.toNat → x.toNat ≤ 64 → exec (.range h [x]) s = s.after (
      ((s.dev.heard k).updLink fun l => { l with slots := Tab.put l.slots k (some x.toNat) }).answered 0x06 h .ok)) ∧
    (x.toNat = 0 → exec (.range h [x]) s = s.after (
      ((s.dev.heard k).updLink fun l => { l with slots := Tab.put l.slots k (some 1) }).answered 0x06 h .clamped)) ∧
    (64 < x.toNat → exec (.range h [x]) s = s.after (
      ((s.dev.heard k).updLink fun l => { l with slots := Tab.put l.slots k (some 64) }).answered 0x06 h .clamped)) ∧
    (x.getLsbD 0 = true ∨ x.getLsbD 1 = true →
      exec (.reportMask h [x]) s = s.after ((s.dev.heard k).answered 0x07 h .badValue)) ∧
    (x.getLsbD 0 = false → x.getLsbD 1 = false → exec (.reportMask h [x]) s = s.after (
      ((s.dev.heard k).updLink fun l => { l with masks := {
        security := x.getLsbD 2, door := x.getLsbD 3, route := x.getLsbD 4, system := x.getLsbD 5 } }).answered 0x07 h .ok)))

/-- R188 with R53, R87, R136, R167, R178: the expiry of the supervision timer; one that is not due changes nothing (the
model's choice, log 2). -/
def Obligations.SupervisionExpiry : Prop :=
  ∀ (s : State) (x : Timer), s.dev.up = true → s.dev.sup.mode = .linked x →
    (x.due s.dev.clock = false → exec .supervisionExpiry s = .next s) ∧
    (x.due s.dev.clock = true → ∃ t, exec .supervisionExpiry s = .next t ∧
      t.dev.sup = { s.dev.sup with mode := .autonomous s.dev.clock } ∧
      (∀ k, t.dev.slot k = none) ∧ (∀ f, s.dev.link.tx = some f → t.dev.link.tx = some f) ∧
      (t.dev.inputs, t.dev.clock, t.dev.points, t.dev.classes, t.dev.loops, t.dev.regime, t.dev.passages) =
        (s.dev.inputs, s.dev.clock, s.dev.points, s.dev.classes, s.dev.loops, s.dev.regime, s.dev.passages) ∧
      (s.dev.isRunning = true →
        (∀ z r, s.dev.zone? z = some r → ∃ r', t.dev.zone? z = some r' ∧
          r'.base = { r.base with fire := if r.fire.isVerify then r.fire.toAlarm .autonomous none s.dev.clock else r.fire }) ∧
        (∀ n r, t.dev.door? n = some r → r.demands.station = none) ∧
        (∀ g, g < 8 → (t.dev.group g).inTest = false)) ∧
      (CallLaw s.dev →
        t.dev.board.calls.map (·.number) = s.dev.board.calls.map (·.number) ∧
        ∀ c ∈ t.dev.board.calls, ∀ owner, c.state ≠ .claimed owner))

/-! ### Restarts, COMMIT and EDIT (Chapters 10 and 11) -/

/-- R180, R181, R191: COMMIT is in flight from its taking, without a reply; in RUNNING it is refused; a completion that finds
a failing check changes nothing else and names table and index; without a COMMIT in flight there is no completion (the
model's choice, log 2). RESTART is taken in LINKED, also while a COMMIT is in flight, which it abandons with a CHECK_FAILED
reply that names no table; from then on no frame is taken. The index byte of that reply is a free value (log 6). -/
def Obligations.RestartAndCommit : Prop :=
  (∀ (s : State) (h : Header) (k : Nat), s.dev.hears h k →
    (s.dev.isRunning = false → exec (.commit h []) s = s.after (
      ((s.dev.heard k).updLink fun l => { l with commit := some h }).transmit)) ∧
    (s.dev.isRunning = true → exec (.commit h []) s = s.after ((s.dev.heard k).answered 0x19 h .badState))) ∧
  (∀ (s : State) (h : Header) (table index : Nat), s.dev.up = true → s.dev.link.commit = some h →
    s.dev.commitCheck = some (table, index) → exec .commitCompletion s = s.after (
      (s.dev.updLink fun l => { l with commit := none }).answered 0x19 h .checkFailed (.checkFailed table index))) ∧
  (∀ s : State, s.dev.link.commit = none → exec .commitCompletion s = .next s) ∧
  (∀ (s : State) (h : Header) (k : Nat), s.dev.up = true → s.dev.link.discards = false → slotOf h.station = some k →
    s.dev.isAutonomous = false →
    (s.dev.link.commit = none → exec (.restart h []) s = s.after (
      ((s.dev.heard k).updLink fun l => { l with restarting := true }).answered 0x05 h .ok)) ∧
    (∀ c, s.dev.link.commit = some c → exec (.restart h []) s = s.after (
      ((((s.dev.heard k).updLink fun l => { l with commit := none }).reply 0x19 c .checkFailed
        (.checkFailed 0 Config.noTableIndex.toNat)).updLink fun l => { l with restarting := true }).answered 0x05 h .ok)) ∧
    (∀ t, exec (.restart h []) s = .next t → t.dev.link.discards = true))

/-- R177, R186, R191, R192 and the warm-restart rules of the blocks: the warm restart, at the end of the RESTART reply. The
reports of before are gone, and the head of the new ones goes out with the gap mark of the loss: CALLS_CLEARED with the
numbers discarded (R138), unless the event's own reports overflow the queue. That both rows tell of the one event is the
model's reading (log 20), as is the mode LINKED also when supervision was lost after the RESTART (log 17); what a
COMMISSIONING warm restart leaves of guarding and doors, that the lines go on, which blank marks stand, that CALLS_CLEARED
goes before the reports of the fresh rule evaluation, and that no report tells of the conditions and silent nodes of doors
that R103 takes away, are its choices (log 18, log 21, log 40, log 12, log 39). -/
def Obligations.WarmRestart : Prop :=
  ∀ s : State, s.dev.up = true → s.dev.link.restartReplySent = true →
    let lost : Bool := s.dev.link.gapMark || !s.dev.link.reports.isEmpty
    let cleared : Report := {
      cls := .call, object := 0, stamp := s.dev.clock, gap := lost
      state := .callsCleared s.dev.board.calls.length s.dev.board.waitingPoints.length }
    ∃ t, exec .warmRestart s = .next t ∧ exec .frameSent s = .next t ∧ t.pending = s.pending ∧
      t.dev.sup = {
        mode := .linked ⟨s.dev.clock, 30⟩, interval := 30, locked := false, lastPulse := .none
        causes := { s.dev.sup.causes with restartRequest := true } } ∧
      t.dev.link.op = s.dev.link.op ∧ t.dev.link.masks = s.dev.link.masks ∧ t.dev.link.commit = none ∧
      t.dev.link.restarting = false ∧ t.dev.link.replies = [] ∧ t.dev.link.rx = [] ∧ (∀ k, t.dev.slot k = none) ∧
      (∃ r, t.dev.link.tx = some (.report r) ∧ (lost = true → r.gap = true)) ∧ t.dev.link.gapMark = false ∧
      (t.dev.link.reports.length < 31 → t.dev.link.tx = some (.report cleared)) ∧
      (s.dev.isRunning = false → t.dev.link.reports = [] ∧ t.dev.link.tx = some (.report cleared)) ∧
      Restarted s.dev t.dev

/-- R190, R192, R138: the supply reaching its working level, or the release of the reset input, takes the cold restart when
the other allows it: all is as at the first power-on but the inputs, the cause set and the calls told as discarded;
otherwise only the input moves. The loss of the supply and the hold of the reset input take every output and every line
to rest; from then on nothing but the inputs moves, whatever the command, and while the FG640 does not operate it drives
nothing. The CALLS_CLEARED report already on the line (log 9), that each input alone decides (log 13), that what is not an
output or a line stands until the cold restart (log 14), and the numbers that the report tells (log 15) are the model's
readings. -/
def Obligations.PowerAndReset : Prop :=
  (∀ s : State,
    let cold : Inputs → Causes → Device := fun i c => { State.reset.dev with
      inputs := i, mainsFail := i.mainsFailed, freeReads := s.dev.freeReads
      sup := { State.reset.dev.sup with causes := c }
      link := { State.reset.dev.link with tx := some (.report { clearedAtPowerOn with
        state := .callsCleared s.dev.board.calls.length s.dev.board.waitingPoints.length }) } }
    let atRest : Inputs → Device := fun i => { s.dev with
      inputs := i
      link := { s.dev.link with tx := none, rx := [] }
      loops := Tab.map (fun l => { l with exchange := none }) s.dev.loops
      sounders := Tab.map (fun c => { c with state := .quiet }) s.dev.sounders
      doorLine := { s.dev.doorLine with exchange := none }
      relays := Vector.replicate 16 false
      signLine := { s.dev.signLine with sending := none } }
    (s.dev.inputs.resetHeld = false → exec .powerOn s =
      s.after (cold { s.dev.inputs with supplyOk := true } { powerOn := true })) ∧
    (s.dev.inputs.supplyOk = true → exec .resetLine s =
      s.after (cold { s.dev.inputs with resetHeld := false } { resetLine := true })) ∧
    (s.dev.inputs.resetHeld = true → exec .powerOn s =
      s.after ({ s.dev with inputs := { s.dev.inputs with supplyOk := true } })) ∧
    (s.dev.inputs.supplyOk = false → exec .resetLine s =
      s.after ({ s.dev with inputs := { s.dev.inputs with resetHeld := false } })) ∧
    exec .supplyBelowWorkingLevel s = s.after (atRest { s.dev.inputs with supplyOk := false }) ∧
    exec .resetInputHeld s = s.after (atRest { s.dev.inputs with resetHeld := true }) ∧
    (s.dev.up = false →
      (∀ failed, exec (.mainsChange failed) s =
        s.after ({ s.dev with inputs := { s.dev.inputs with mainsFailed := failed } })) ∧
      ∀ i : Instr, i ≠ .powerOn → i ≠ .resetLine → i ≠ .supplyBelowWorkingLevel → i ≠ .resetInputHeld →
        (∀ failed, i ≠ .mainsChange failed) → exec i s = .next s)) ∧
  (∀ s t : State, OffLaw s.dev → step s = .next t → OffLaw t.dev)

/-- R180 with R25, R41, R122, R141, R159: the seven checks in their order, what each looks for, and the table and index that
the first failure names: the lowest failing index of its table, but 255 where no EXIT zone is loaded, and the class of
the lowest SMOKE or HEAT point whose class is not. -/
def Obligations.CommitChecks : Prop :=
  ∀ d : Device,
    let loaded : Nat → Prop := fun z => d.zone? z ≠ none
    let point : Nat → Prop := fun p => p < 256 ∧ (d.point p).kind ≠ .absent ∧ ¬loaded (d.point p).zone
    let exit : Nat → Prop := fun z => ∃ r, d.zone? z = some r ∧ r.kind = .exit ∧
      ∃ p, p < 256 ∧ (d.point p).kind ∈ [PointKind.smoke, .heat, .breakglass] ∧ (d.point p).zone = z
    let noExit : Prop := ∀ z r, d.zone? z = some r → r.kind ≠ .exit
    let passage : Nat → Prop := fun i => ∃ r, d.passage? i = some r ∧ (¬loaded r.a ∨ ¬loaded r.b ∨
      ∃ n, r.door = some n ∧ (d.door? n = none ∨ ∃ j q, j < i ∧ d.passage? j = some q ∧ q.door = some n))
    let sign : Nat → Prop := fun n => ∃ r, d.sign? n = some r ∧ (¬loaded r.zone ∨
      ∃ p, some p ∈ r.bindings.toList ∧ ∀ q, d.passage? p = some q → q.a ≠ r.zone ∧ q.b ≠ r.zone)
    let rule : Nat → Prop := fun e => ∃ r, d.rule? e = some r ∧ r.enabled = true ∧
      (e < d.daySlots ∨ 128 ≤ e + d.nightSlots) ∧
      ((∃ z f, (r.a = .zone z f ∨ r.b = .zone z f) ∧ ¬loaded z) ∨
        (∃ n v, r.effect = .door n v ∧ ∀ x, d.door? n = some x →
          (x.kind = .fireLeaf ∧ (v = .lock ∨ v = .unlock)) ∨ (x.kind ≠ .fireLeaf ∧ (v = .holdOpen ∨ v = .close))) ∨
        (∃ z, r.effect = .avoid z ∧ ¬loaded z))
    let cls : Nat → Prop := fun p => p < 256 ∧ ((d.point p).kind = .smoke ∨ (d.point p).kind = .heat) ∧
      d.class? (d.point p).cls = none
    let passes : (Nat → Prop) → Prop := fun bad => ∀ i, ¬bad i
    let first : (Nat → Prop) → Nat → Prop := fun bad i => bad i ∧ ∀ j, j < i → ¬bad j
    (∀ p, first point p → d.commitCheck = some (1, p)) ∧
    (passes point → ∀ z, first exit z → d.commitCheck = some (2, z)) ∧
    (passes point → passes exit → noExit → d.commitCheck = some (2, 255)) ∧
    (passes point → passes exit → ¬noExit →
      (∀ i, first passage i → d.commitCheck = some (3, i)) ∧
      (passes passage → ∀ n, first sign n → d.commitCheck = some (4, n)) ∧
      (passes passage → passes sign → ∀ e, first rule e → d.commitCheck = some (5, e)) ∧
      (passes passage → passes sign → passes rule → ∀ p, first cls p → d.commitCheck = some (6, (d.point p).cls)) ∧
      (passes passage → passes sign → passes rule → passes cls → d.commitCheck = none))

/-- R181: a COMMIT whose checks pass takes the FG640 to RUNNING with the values that every block's chapter gives; the link
controller's queues, masks and slots and the supervision state stay. That the lines go on (log 21), and which blank marks
stand (log 40), are the model's choices. -/
def Obligations.CommitSucceeds : Prop :=
  ∀ (s : State) (h : Header), s.dev.up = true → s.dev.link.commit = some h → s.dev.commitCheck = none →
    ∃ t, exec .commitCompletion s = .next t ∧ Answers s t 0x19 h .ok ∧ t.dev.sup = s.dev.sup ∧
      t.dev.link.base = { s.dev.link with op := .running, commit := none }.base ∧ Restarted s.dev t.dev

/-- R182 with R21, R61, R78, R102, R123, R138, R154, R169: EDIT is refused while a zone is in VERIFY or ALARM; otherwise
every block takes its values without a report, and the reply counts what ended. That the door line and the sign line
go on, and that calls and pending points are counted in one sum, are the model's choices (log 21, log 46). -/
def Obligations.EditEnds : Prop :=
  ∀ (s : State) (h : Header) (k : Nat), s.dev.hears h k →
    (s.dev.isRunning = false → exec (.edit h []) s = s.after ((s.dev.heard k).answered 0x1A h .badState)) ∧
    (s.dev.isRunning = true → s.dev.anyHot = true →
      exec (.edit h []) s = s.after ((s.dev.heard k).answered 0x1A h .badState)) ∧
    (s.dev.isRunning = true → s.dev.anyHot = false → ∃ t, exec (.edit h []) s = .next t ∧ t.pending = s.pending ∧
      t.dev.link = (((s.dev.heard k).updLink fun l => { l with op := .commissioning }).answered 0x1A h .ok
        (.edit s.dev.editCounts)).link ∧
      (t.dev.inputs, t.dev.clock, t.dev.sup, t.dev.classes, t.dev.regime, t.dev.daySlots, t.dev.nightSlots,
          t.dev.mainsFail, t.dev.passages, t.dev.doorLine) =
        (s.dev.inputs, s.dev.clock, s.dev.sup, s.dev.classes, s.dev.regime, s.dev.daySlots, s.dev.nightSlots,
          s.dev.mainsFail, s.dev.passages, s.dev.doorLine) ∧
      (∀ p, t.dev.point p = { s.dev.point p with
        condition := .normal, clearMark := false
        arith := (s.dev.point p).arith.map fun a => { a with confirm := 0, ring := [] } }) ∧
      (∀ l, t.dev.loop l = { s.dev.loop l with confirmQueue := [] }) ∧
      (∀ z, t.dev.zone? z = (s.dev.zone? z).map fun r => { r.base with
        fire := .quiet, preCount := 0, activeCount := 0, security := .off, openContacts := 0, openCases := 0 }) ∧
      t.dev.alarmHold = none ∧ (∀ c, t.dev.sounder c = {}) ∧ (∀ r, Tab.getD t.dev.relays r false = false) ∧
      (∀ n, t.dev.door? n = (s.dev.door? n).map fun r => { r with demands := { r.demands with
        station := r.demands.station.map fun x => { x with timer := none } } }) ∧
      (∀ e, t.dev.rule? e = (s.dev.rule? e).map fun r => { r with outcome := .off }) ∧
      t.dev.board = {} ∧
      t.dev.route = { s.dev.route with engine := .idle, rerun := false, stale := false, plan := none } ∧
      (∀ g, t.dev.group g = { s.dev.group g with state := .run }) ∧
      (∀ n, t.dev.sign? n = (s.dev.sign? n).map fun r =>
        { r with blank := Vector.replicate 4 false, shown := t.dev.safeDefault r }) ∧
      SendsGoOn s.dev t.dev)

/-! ### Queries -/

/-- R18, R55, R60, R101, R110, R121, R137, R153, R168, R183: the queries that change nothing, with every field of what they
tell, and what they refuse. That a QUERY without a known code is the QUERY STATUS row's (log 11), and that the reply for an
unloaded sign tells of no plan (log 41), the one for an unloaded rule entry of no outcome, values or truth (log 44), the one
of QUERY ZONE for an unloaded zone of its flags alone (log 47), and the one of QUERY PLAN for an unloaded zone of no blocked
mark and no penalty (log 48), are the model's choices. -/
def Obligations.Queries : Prop :=
  ∀ (s : State) (h : Header) (k : Nat) (x y : Byte), s.dev.listens h k →
    let told : Content → Host.Outcome State Fault Refusal := fun c => s.after ((s.dev.heard k).answered 0x08 h .ok c)
    let refused : Status → Host.Outcome State Fault Refusal := fun st => s.after ((s.dev.heard k).answered 0x08 h st)
    let d := s.dev
    let arith := (d.point x.toNat).arith.getD {}
    let zone : Nat → (Zone → Bool) → Bool := fun z f => (d.zone? z).any f
    let flags : Nat → ZoneFlags := fun z => {
      fireAlarm := zone z fun r => r.fire.isAlarm
      fireVerify := zone z fun r => r.fire.isVerify
      firePre := zone z fun r => r.fire == .pre
      fireFault := zone z fun r => r.faultCount != 0
      intruder := zone z fun r => r.security.isIntruder
      armed := zone z fun r => match r.security with
        | .setting _ | .armed | .entry _ _ => true
        | _ => false
      callWaiting := zone z fun r => r.callWaiting
      callEscalated := zone z fun r => r.callEscalated
      noRoute := zone z fun r => r.noRoute
      avoid := zone z fun r => r.avoid }
    let alarm := (List.range 48).any fun z => (flags z).fireAlarm
    let value : Operand → Bool := fun o => match o with
      | .zone z .fireAlarm => (flags z).fireAlarm
      | .zone z .fireVerify => (flags z).fireVerify
      | .zone z .firePre => (flags z).firePre
      | .zone z .fireFault => (flags z).fireFault
      | .zone z .intruder => (flags z).intruder
      | .zone z .armed => (flags z).armed
      | .zone z .callWaiting => (flags z).callWaiting
      | .zone z .callEscalated => (flags z).callEscalated
      | .zone z .noRoute => (flags z).noRoute
      | .zone z .avoid => (flags z).avoid
      | .global .yes => true
      | .global .night => d.regime == .night
      | .global .mainsFail => d.mainsFail
      | .global .autonomous => d.isAutonomous
      | .global .anyAlarm => alarm
      | .global .alarmHold => d.alarmHold.isSome
    let day : Nat → Bool := fun e => e < d.daySlots
    let night : Nat → Bool := fun e => 128 ≤ e + d.nightSlots
    let group : Nat → GroupRow := fun g => { group := d.group g, stepLeft := match (d.group g).state with
      | .test _ tm => some (tm.left d.clock)
      | _ => none }
    exec (.queryPoint h [0, x]) s = told (.point {
      kind := (d.point x.toNat).kind, zone := (d.point x.toNat).zone, cls := (d.point x.toNat).cls
      enabled := (d.point x.toNat).enabled, entryRoute := (d.point x.toNat).entryRoute
      condition := (d.point x.toNat).condition, health := (d.point x.toNat).health
      held := (d.point x.toNat).held, misses := (d.point x.toNat).misses
      part := match (d.point x.toNat).kind with
        | .smoke => .smoke arith.baseline arith.learnt arith.readings arith.confirm
        | .heat => .heat arith.ring.length arith.ring arith.confirm
        | _ => .plain }) ∧
    (x.toNat < 48 → exec (.queryZone h [1, x]) s = told (.zone (d.zone? x.toNat) (flags x.toNat)
      (match (d.zone? x.toNat).map Zone.fire with
        | some (.verify _ tm _) => some (tm.left d.clock)
        | _ => none)
      (match (d.zone? x.toNat).map Zone.security with
        | some (.setting tm) => some (tm.left d.clock)
        | some (.entry tm _) => some (tm.left d.clock)
        | _ => none))) ∧
    exec (.queryCalls h [3, 0]) s = told (.callQueue
      ((d.board.calls.filter (fun c => c.priority == .urgent) ++ d.board.calls.filter (fun c => c.priority == .normal)).map
        fun c => match c.state with
          | .waiting start => {
            call := c, elapsed := some (d.clock - start).toNat, limit := some (if c.priority = .urgent then 15 else 60) }
          | _ => { call := c, elapsed := none, limit := none }) d.board.callCounter d.board.arrivalCounter) ∧
    exec (.queryCalls h [3, 1, x]) s = told (.callPoints d.board.waitingPoints.length
      ((d.board.waitingPoints.drop x.toNat).take 64)) ∧
    (x.toNat < 48 → exec (.queryPlan h [4, x]) s = told (.plan {
        computing := d.route.engine != .idle, rerun := d.route.rerun, stale := d.route.stale
        discards := d.route.discards, number := d.route.planNumber
        published := d.route.plan.map fun p => (p.stamp, p.work.sweeps) }
      ((d.zone? x.toNat).map fun r => {
        blocked := r.fire.isAlarm || r.avoid, penalty := if r.fire == .pre || r.fire.isVerify then 64 else 0
        entry := d.route.plan.bind fun p => Tab.get? p.work.entries x.toNat }))) ∧
    (∀ r, d.sign? x.toNat = some r → exec (.querySign h [5, x]) s = told (.sign (some r) (group r.group)
      (d.route.plan.map fun p => {
        number := p.number, next := (Tab.get? p.work.entries r.zone).bind fun e => e.next.map (·.passage)
        distance := (Tab.get? p.work.entries r.zone).map (·.distance) }))) ∧
    (x.toNat < 64 → d.sign? x.toNat = none → exec (.querySign h [5, x]) s = told (.sign none (group 0) none)) ∧
    (x.toNat < 128 → exec (.queryRule h [6, x]) s = told (.rule {
      rule := d.rule? x.toNat
      left := (d.rule? x.toNat).bind fun r => match r.outcome with
        | .delaying tm => some (tm.left d.clock)
        | _ => none
      valueA := (d.rule? x.toNat).map fun r => value r.a
      valueB := (d.rule? x.toNat).map fun r => value r.b
      truth := (d.rule? x.toNat).map fun r => r.fn.eval (value r.a) (value r.b)
      daySlot := if day x.toNat then some x.toNat else none
      nightSlot := if night x.toNat then some (127 - x.toNat) else none
      live := d.isRunning && (if d.regime = .day then day x.toNat else night x.toNat) && (d.rule? x.toNat).any (·.enabled)
      dn := d.daySlots, nn := d.nightSlots })) ∧
    exec (.queryStatus h [7]) s = told (.status {
      op := d.link.op, mode := d.sup.mode
      supervisionLeft := match d.sup.mode with
        | .linked tm => some (tm.left d.clock)
        | .autonomous _ => none
      interval := d.sup.interval, locked := d.sup.locked, lastPulse := d.sup.lastPulse, regime := d.regime
      planNumber := d.route.planNumber, planPublished := d.route.plan.isSome, reports := d.link.reports.length
      gapMark := d.link.gapMark, masks := d.link.masks, anyAlarm := alarm
      holdLeft := d.alarmHold.map fun tm => tm.left d.clock
      mainsFail := d.mainsFail, sounders := Tab.map (·.state) d.sounders, relays := d.relays, clock := d.clock }) ∧
    (48 ≤ x.toNat → exec (.queryZone h [1, x]) s = refused .badIndex ∧ exec (.queryPlan h [4, x]) s = refused .badIndex) ∧
    (64 ≤ x.toNat → exec (.querySign h [5, x]) s = refused .badIndex) ∧
    (128 ≤ x.toNat → exec (.queryRule h [6, x]) s = refused .badIndex) ∧
    (32 ≤ x.toNat → exec (.queryDoor h [2, x]) s = refused .badIndex) ∧
    (2 ≤ x.toNat → exec (.queryCalls h [3, x]) s = refused .badValue) ∧
    (9 ≤ x.toNat → exec (.queryStatus h [x]) s = refused .badValue) ∧
    exec (.queryPoint h [0]) s = refused .badValue ∧ exec (.queryPoint h [0, x, y]) s = refused .badValue ∧
    exec (.queryCalls h [3, 0, x]) s = refused .badValue ∧ exec (.queryStatus h [7, x]) s = refused .badValue ∧
    exec (.queryResetCause h [8, x]) s = refused .badValue

/-- R101, R192: QUERY DOOR and QUERY RESET_CAUSE. What is left of a 3.0 s timer lies between what the seconds counter
shows; within that it is a free value, and the counter of free values moves on by two (log 3). That the reply for an
unloaded door names no passage is the model's choice (log 43). -/
def Obligations.QueryDoorAndCause : Prop :=
  ∀ (s : State) (h : Header) (k : Nat) (x : Byte), s.dev.listens h k →
    (x.toNat < 32 → s.dev.door? x.toNat = none →
      exec (.queryDoor h [2, x]) s = s.after ((s.dev.heard k).answered 0x08 h .ok (.door none none))) ∧
    (∀ r, s.dev.door? x.toNat = some r → ∃ c w : Option Nat,
      exec (.queryDoor h [2, x]) s = s.after (
        ({ s.dev.heard k with freeReads := s.dev.freeReads + 2 } : Device).answered 0x08 h .ok (.door (some r) (some {
          station := s.dev.left (r.demands.station.bind fun x => x.timer), confirmTenths := c
          held := s.dev.left r.held, shunt := s.dev.left r.shunt, watchTenths := w, passage := s.dev.passageOf x.toNat }))) ∧
      (c = none ↔ r.confirm = none) ∧ (w = none ↔ r.watch = none) ∧
      (∀ t n, (r.confirm = some t ∧ c = some n) ∨ (r.watch = some t ∧ w = some n) →
        n ≤ 30 ∧ n ≤ 39 - 10 * secondsSince s.dev.clock t.start ∧ 21 ≤ n + 10 * secondsSince s.dev.clock t.start)) ∧
    exec (.queryResetCause h [8]) s = s.after (
      ((s.dev.heard k).withSup { s.dev.sup with causes := {} }).answered 0x08 h .ok (.causes s.dev.sup.causes))

/-! ### Commissioning requests -/

/-- R41, R64: LOAD_ZONE. That bits 4 to 7 of its flags are not read is the model's choice (log 27). -/
def Obligations.LoadZone : Prop :=
  ∀ (s : State) (h : Header) (k : Nat) (z kd f a s1 s0 p x e : Byte), s.dev.hears h k → s.dev.isRunning = false →
    let body : List Byte := [z, kd, f, a, s1, s0, p, x, e]
    let ack := if f.getLsbD 1 then a.toNat else 30
    let search := if f.getLsbD 2 then s1.toNat * 256 + s0.toNat else 180
    let exit := if f.getLsbD 3 then x.toNat else 30
    (48 ≤ z.toNat → exec (.loadZone h body) s = s.after ((s.dev.heard k).answered 0x10 h .badIndex)) ∧
    (z.toNat < 48 → 5 ≤ kd.toNat ∨ 3 ≤ p.toNat →
      exec (.loadZone h body) s = s.after ((s.dev.heard k).answered 0x10 h .badValue)) ∧
    (z.toNat < 48 → ∀ kind policy,
      (kd.toNat, kind) ∈ [(0, ZoneKind.gallery), (1, .circulation), (2, .stair), (3, .store), (4, .exit)] →
      (p.toNat, policy) ∈ [(0, ArmPolicy.never), (1, .night), (2, .always)] →
      ∃ t, exec (.loadZone h body) s = .next t ∧
        Answers s t 0x10 h (if (10 ≤ ack ∧ ack ≤ 120) ∧ (60 ≤ search ∧ search ≤ 600) ∧ exit ≤ 120 ∧ e.toNat ≤ 60
          then .ok else .clamped) ∧
        t.dev.link.base = (s.dev.heard k).link.base ∧
        t.dev = { s.dev with link := t.dev.link, zones := Tab.put s.dev.zones z.toNat (some {
          kind := kind, verify := f.getLsbD 0, policy := policy
          ackTime := max 10 (min 120 ack), searchTime := max 60 (min 600 search)
          exitDelay := min 120 exit, entryDelay := min 60 e.toNat
          faultCount := (List.range 256).countP fun q =>
            (s.dev.point q).kind != .absent && (s.dev.point q).zone == z.toNat && (s.dev.point q).health != .ok }) })

/-- R2, R5, R12, R15: LOAD_POINT; an idle loop starts its sweep at the next configured address of its round. That bits 2 to 7
of its flags are not read (log 27), and that a faulty point's old zone loses it from its fault count (log 28), are the
model's readings. -/
def Obligations.LoadPoint : Prop :=
  ∀ (s : State) (h : Header) (k : Nat) (p kd z c f : Byte), s.dev.hears h k → s.dev.isRunning = false →
    let exec' := exec (.loadPoint h [p, kd, z, c, f]) s
    let old := s.dev.point p.toNat
    (48 ≤ z.toNat ∨ 8 ≤ c.toNat → exec' = s.after ((s.dev.heard k).answered 0x11 h .badIndex)) ∧
    (z.toNat < 48 → c.toNat < 8 → 9 ≤ kd.toNat ∨ (f.getLsbD 1 = true ∧ kd.toNat ≠ 5) →
      exec' = s.after ((s.dev.heard k).answered 0x11 h .badValue)) ∧
    (z.toNat < 48 → c.toNat < 8 → ∀ kind, PointKind.ofCode kd.toNat = some kind → (f.getLsbD 1 = true → kd.toNat = 5) →
      ∃ t, exec' = .next t ∧ Answers s t 0x11 h .ok ∧ t.dev.link.base = (s.dev.heard k).link.base ∧
        t.dev = { s.dev with
          link := t.dev.link
          points := Tab.put s.dev.points p.toNat (if kind = .absent then {} else {
            kind := kind, zone := z.toNat, cls := c.toNat, enabled := f.getLsbD 0, entryRoute := f.getLsbD 1
            arith := if kind = .smoke ∨ kind = .heat then some {} else none })
          zones := if old.health = .ok then s.dev.zones
            else Tab.upd s.dev.zones old.zone fun r => { r with faultCount := r.faultCount - 1 }
          loops := t.dev.loops } ∧
        (∀ l, l ≠ p.toNat / 64 → t.dev.loop l = s.dev.loop l) ∧
        (t.dev.loop (p.toNat / 64)).confirmQueue =
          (s.dev.loop (p.toNat / 64)).confirmQueue.filter (fun a => a != p.toNat % 64) ∧
        ((s.dev.loop (p.toNat / 64)).exchange ≠ none →
          (t.dev.loop (p.toNat / 64)).exchange = (s.dev.loop (p.toNat / 64)).exchange ∧
          (t.dev.loop (p.toNat / 64)).sweep = (s.dev.loop (p.toNat / 64)).sweep) ∧
        ((s.dev.loop (p.toNat / 64)).exchange = none →
          let configured : Nat → Prop := fun a => a < 64 ∧ (t.dev.point (64 * (p.toNat / 64) + a)).kind ≠ .absent
          let above : Nat → Prop := fun a => ∀ k, (s.dev.loop (p.toNat / 64)).sweep = some k → k < a
          let starts : Nat → Prop := fun a =>
            (t.dev.loop (p.toNat / 64)).exchange = some (.sweep a) ∧ (t.dev.loop (p.toNat / 64)).sweep = some a
          (∀ a, configured a → above a → (∀ b, b < a → above b → ¬configured b) → starts a) ∧
          (∀ a, (∀ b, configured b → ¬above b) → configured a → (∀ b, b < a → ¬configured b) → starts a) ∧
          ((∀ a, ¬configured a) → (t.dev.loop (p.toNat / 64)).exchange = none ∧
            (t.dev.loop (p.toNat / 64)).sweep = (s.dev.loop (p.toNat / 64)).sweep)))

/-- R22, R23, R24: LOAD_CLASS. That bits 4 to 7 of its present byte are not read is the model's choice (log 27). -/
def Obligations.LoadClass : Prop :=
  ∀ (s : State) (h : Header) (k : Nat) (c f tpd tad tpn tan kk w l hf hr : Byte), s.dev.hears h k → s.dev.isRunning = false →
    let exec' := exec (.loadClass h [c, f, tpd, tad, tpn, tan, kk, w, l, hf, hr]) s
    let given : ClassRec := {
      tpDay := tpd.toNat, taDay := tad.toNat, tpNight := tpn.toNat, taNight := tan.toNat, k := kk.toNat
      w := if f.getLsbD 0 then w.toNat else 6, l := if f.getLsbD 1 then l.toNat else 80
      hf := if f.getLsbD 2 then hf.toNat else 116, hr := if f.getLsbD 3 then hr.toNat else 12 }
    let r : ClassRec := {
      tpDay := max 1 (min 200 given.tpDay), taDay := max 1 (min 200 given.taDay)
      tpNight := max 1 (min 200 given.tpNight), taNight := max 1 (min 200 given.taNight)
      k := max 1 (min 4 given.k), w := max 2 (min 20 given.w), l := max 16 (min 160 given.l)
      hf := max 80 (min 180 given.hf), hr := max 4 (min 40 given.hr) }
    (8 ≤ c.toNat → exec' = s.after ((s.dev.heard k).answered 0x12 h .badIndex)) ∧
    (c.toNat < 8 → r.taDay ≤ r.tpDay ∨ r.taNight ≤ r.tpNight →
      exec' = s.after ((s.dev.heard k).answered 0x12 h .badValue)) ∧
    (c.toNat < 8 → r.tpDay < r.taDay → r.tpNight < r.taNight →
      let d : Device := { s.dev.heard k with
        classes := Tab.put s.dev.classes c.toNat (some r)
        points := Tab.map (fun p => if p.kind = .smoke ∧ p.cls = c.toNat then { p with arith := p.arith.map fun a =>
          if a.learnt then { a with baseline := min a.baseline (256 * r.l) } else a } else p) s.dev.points }
      exec' = s.after (d.answered 0x12 h (if r = given then .ok else .clamped)))

/-- R81, R82: LOAD_DOOR. Whether a newly loaded door awaits an early exchange is a free value (log 5); that an idle line starts
its first exchange then (log 22), that bits 3 to 7 of its flags are not read (log 27), and that no report tells of the
condition that becomes absent and the node that counts as heard (log 39), are the model's choices. -/
def Obligations.LoadDoor : Prop :=
  ∀ (s : State) (h : Header) (k : Nat) (n kd z f h1 h0 : Byte), s.dev.hears h k → s.dev.isRunning = false →
    let exec' := exec (.loadDoor h [n, kd, z, f, h1, h0]) s
    let limit := if f.getLsbD 2 then h1.toNat * 256 + h0.toNat else 30
    (32 ≤ n.toNat ∨ 48 ≤ z.toNat → exec' = s.after ((s.dev.heard k).answered 0x13 h .badIndex)) ∧
    (n.toNat < 32 → z.toNat < 48 → 3 ≤ kd.toNat ∨ (f.getLsbD 0 = true ∧ kd.toNat = 2) →
      exec' = s.after ((s.dev.heard k).answered 0x13 h .badValue)) ∧
    (n.toNat < 32 → z.toNat < 48 → ∀ kind,
      (kd.toNat, kind) ∈ [(0, DoorKind.egress), (1, .strongroom), (2, .fireLeaf)] →
      (f.getLsbD 0 = true → kd.toNat ≠ 2) →
      ∃ t r, exec' = .next t ∧
        r.kind = kind ∧ r.zone = z.toNat ∧ r.nightLock = f.getLsbD 0 ∧ r.entryRoute = f.getLsbD 1 ∧
        r.heldLimit = max 5 (min 300 limit) ∧ r.demands = {} ∧ r.leaf = none ∧ r.lock = none ∧ r.health = .ok ∧
        r.condition = none ∧ r.confirm = none ∧ r.held = none ∧ r.shunt = none ∧ r.watch = some ⟨s.dev.clock, 3⟩ ∧
        (∀ old, s.dev.door? n.toNat = some old → old.kind.lockable = kind.lockable →
          r.drive = old.drive ∧ r.level = old.level) ∧
        ((∀ old, s.dev.door? n.toNat = some old → old.kind.lockable ≠ kind.lockable) →
          r.drive = (if kind = .fireLeaf then Drive.holdOpen else .lock) ∧ r.level = .rest) ∧
        t.dev.link = ((s.dev.heard k).answered 0x13 h (if 5 ≤ limit ∧ limit ≤ 300 then .ok else .clamped)).link ∧
        t.dev = { s.dev with
          link := t.dev.link, doors := Tab.put s.dev.doors n.toNat (some r), doorLine := t.dev.doorLine } ∧
        t.dev.doorLine.exchange ≠ none ∧
        (s.dev.doorLine.exchange ≠ none → t.dev.doorLine.exchange = s.dev.doorLine.exchange ∧
          t.dev.doorLine.round = s.dev.doorLine.round))

/-- R156, R157, R160, R163: LOAD_SIGN; a present byte other than 0 and 1 is refused (log 23), and whether a newly loaded
sign awaits an early send is a free value (log 5), and that an idle line starts its first send then (log
22), that bits 1 to 7 of its flags are not read (log 27), and that a send in flight to an address that it unloads goes on
(log 42), are the model's choices. -/
def Obligations.LoadSign : Prop :=
  ∀ (s : State) (h : Header) (k : Nat) (n pr z g b0 b1 b2 b3 l f : Byte), s.dev.hears h k → s.dev.isRunning = false →
    let exec' := exec (.loadSign h [n, pr, z, g, b0, b1, b2, b3, l, f]) s
    let refused : Status → Host.Outcome State Fault Refusal := fun st => s.after ((s.dev.heard k).answered 0x15 h st)
    let fits : Byte → Prop := fun b => b.toNat < 96 ∨ b.toNat = 255
    let ref : Byte → Option Nat := fun b => if b.toNat = 255 then none else some b.toNat
    (64 ≤ n.toNat → exec' = refused .badIndex) ∧
    (n.toNat < 64 → pr = 0 → ∃ t, exec' = .next t ∧ t.pending = s.pending ∧
      t.dev = { (s.dev.heard k).answered 0x15 h .ok with
        signs := Tab.put s.dev.signs n.toNat none
        signLine := { s.dev.signLine with early := Tab.put s.dev.signLine.early n.toNat false } }) ∧
    (n.toNat < 64 → 2 ≤ pr.toNat → exec' = refused .badValue) ∧
    (n.toNat < 64 → pr = 1 → ¬(fits b0 ∧ fits b1 ∧ fits b2 ∧ fits b3) ∨ 48 ≤ z.toNat ∨ 8 ≤ g.toNat →
      exec' = refused .badIndex) ∧
    (n.toNat < 64 → pr = 1 → fits b0 ∧ fits b1 ∧ fits b2 ∧ fits b3 → z.toNat < 48 → g.toNat < 8 →
      (4 ≤ l.toNat → exec' = refused .badValue) ∧
      (∀ legend, (l.toNat, legend) ∈ [(0, LegendSource.dark), (1, .lit), (2, .mainsFail), (3, .alarm)] →
        ∃ t r, exec' = .next t ∧ t.pending = s.pending ∧
          r.zone = z.toNat ∧ r.group = g.toNat ∧ r.bindings = #v[ref b0, ref b1, ref b2, ref b3] ∧ r.legend = legend ∧
          r.invert = f.getLsbD 0 ∧ r.blank = #v[false, false, false, false] ∧
          r.shown = #v[.dark, .dark, .dark, .dark, .dark, if s.dev.legendOn r then .steady else .dark] ∧
          t.dev = { (s.dev.heard k).answered 0x15 h .ok with
            signs := Tab.put s.dev.signs n.toNat (some r), signLine := t.dev.signLine } ∧
          t.dev.signLine.sending ≠ none ∧
          (s.dev.signLine.sending ≠ none → t.dev.signLine.sending = s.dev.signLine.sending ∧
            t.dev.signLine.round = s.dev.signLine.round)))

/-- R108, R109, R140, R158: LOAD_RULE, LOAD_LIMITS, LOAD_GROUP and LOAD_PASSAGE. That bits 2 to 7 of a rule's flags are not
read (log 27), and that a present byte other than 0 and 1 is refused (log 23), are the model's choices. -/
def Obligations.LoadTable : Prop :=
  (∀ (s : State) (h : Header) (k : Nat), s.dev.hears h k → s.dev.isRunning = false →
    (∀ e f za fa zb fb fn d1 d0 ef tg dr : Byte,
      let exec' := exec (.loadRule h [e, f, za, fa, zb, fb, fn, d1, d0, ef, tg, dr]) s
      let zoneFits : Byte → Prop := fun z => z.toNat < 48 ∨ z.toNat = 255
      let targetFits : Prop := (ef.toNat = 0 → tg.toNat < 32) ∧ (ef.toNat = 1 → tg.toNat < 16) ∧
        (ef.toNat = 2 → tg.toNat < 16) ∧ (ef.toNat = 3 → tg.toNat < 48)
      let delay := d1.toNat * 256 + d0.toNat
      (128 ≤ e.toNat ∨ ¬zoneFits za ∨ ¬zoneFits zb ∨ ¬targetFits →
        exec' = s.after ((s.dev.heard k).answered 0x17 h .badIndex)) ∧
      (e.toNat < 128 → zoneFits za → zoneFits zb → targetFits →
        ((za.toNat ≠ 255 ∧ 9 ≤ fa.toNat) ∨ (za.toNat = 255 ∧ 6 ≤ fa.toNat) ∨
            (zb.toNat ≠ 255 ∧ 9 ≤ fb.toNat) ∨ (zb.toNat = 255 ∧ 6 ≤ fb.toNat) ∨
            16 ≤ fn.toNat ∨ 4 ≤ ef.toNat ∨ (ef.toNat = 0 ∧ 4 ≤ dr.toNat) →
          exec' = s.after ((s.dev.heard k).answered 0x17 h .badValue)) ∧
        (∀ a b g x, Operand.ofBytes za.toNat fa.toNat = some a → Operand.ofBytes zb.toNat fb.toNat = some b →
          Combine.ofCode fn.toNat = some g → Effect.ofBytes ef.toNat tg.toNat dr.toNat = some x →
          exec' = s.after (((s.dev.heard k).putRule e.toNat {
            enabled := f.getLsbD 0, latch := f.getLsbD 1, a := a, b := b, fn := g, delay := min 600 delay, effect := x
            outcome := .off }).answered 0x17 h (if delay ≤ 600 then .ok else .clamped))))) ∧
    (∀ dn nn : Byte,
      let d : Device := { s.dev.heard k with daySlots := min 128 dn.toNat, nightSlots := min 128 nn.toNat }
      exec (.loadLimits h [dn, nn]) s = s.after (
        d.answered 0x18 h (if dn.toNat ≤ 128 ∧ nn.toNat ≤ 128 then .ok else .clamped))) ∧
    (∀ g n : Byte,
      (8 ≤ g.toNat → exec (.loadGroup h [g, n]) s = s.after ((s.dev.heard k).answered 0x16 h .badIndex)) ∧
      (g.toNat < 8 → exec (.loadGroup h [g, n]) s = s.after (
        ((s.dev.heard k).putGroup g.toNat { s.dev.group g.toNat with testLength := max 1 (min 64 n.toNat) }).answered 0x16 h
          (if 1 ≤ n.toNat ∧ n.toNat ≤ 64 then .ok else .clamped))))) ∧
  (∀ (s : State) (h : Header) (k : Nat) (p pr a b c w n : Byte), s.dev.hears h k → s.dev.isRunning = false →
    let exec' := exec (.loadPassage h [p, pr, a, b, c, w, n]) s
    let refused : Status → Host.Outcome State Fault Refusal := fun st => s.after ((s.dev.heard k).answered 0x14 h st)
    let put : Option Passage → Device := fun x => { s.dev.heard k with passages := Tab.put s.dev.passages p.toNat x }
    (96 ≤ p.toNat → exec' = refused .badIndex) ∧
    (p.toNat < 96 → pr = 0 → exec' = s.after ((put none).answered 0x14 h .ok)) ∧
    (p.toNat < 96 → 2 ≤ pr.toNat → exec' = refused .badValue) ∧
    (p.toNat < 96 → pr = 1 → (32 ≤ n.toNat ∧ n.toNat ≠ 255) ∨ 48 ≤ a.toNat ∨ 48 ≤ b.toNat → exec' = refused .badIndex) ∧
    (p.toNat < 96 → pr = 1 → n.toNat < 32 ∨ n.toNat = 255 → a.toNat < 48 → b.toNat < 48 →
      (a = b ∨ 2 ≤ w.toNat → exec' = refused .badValue) ∧
      (a ≠ b → ∀ way, (w.toNat, way) ∈ [(0, Way.both), (1, .aToB)] →
        exec' = s.after ((put (some {
          a := a.toNat, b := b.toNat, cost := max 1 (min 250 c.toNat), way := way
          door := if n.toNat = 255 then none else some n.toNat })).answered 0x14 h
            (if 1 ≤ c.toNat ∧ c.toNat ≤ 250 then .ok else .clamped)))))

/-! ### Operating requests -/

/-- R39, R67, R68, R105, R106: SET_REGIME. -/
def Obligations.SetRegime : Prop :=
  ∀ (s : State) (h : Header) (k : Nat) (x : Byte), s.dev.hears h k →
    (2 ≤ x.toNat → exec (.setRegime h [x]) s = s.after ((s.dev.heard k).answered 0x20 h .badValue)) ∧
    (∀ r, (x.toNat, r) ∈ [(0, Regime.day), (1, .night)] →
      (r = s.dev.regime → exec (.setRegime h [x]) s = s.after ((s.dev.heard k).answered 0x20 h .ok)) ∧
      (r ≠ s.dev.regime → ∃ t, exec (.setRegime h [x]) s = .next t ∧ Answers s t 0x20 h .ok (.regime r) ∧
        t.dev.base = { (s.dev.heard k).base with
          regime := r
          alarmHold := if s.dev.anyAlarm = true ∨ t.dev.anyAlarm = false then s.dev.alarmHold else none
          points := Tab.map (fun p => { p with
            arith := p.arith.map fun a => { a with confirm := 0 }, clearMark := false }) s.dev.points
          zones := Tab.map (Option.map fun z => { z.base with
            fire := if s.dev.isRunning && r == .night && z.fire.isVerify then z.fire.toAlarm .night none s.dev.clock else z.fire
            security := if s.dev.isRunning && z.policy == .night then
                match r with
                | .night => if z.security.isUnset then
                    (if z.exitDelay = 0 then z.exitCheck else .setting ⟨s.dev.clock, z.exitDelay⟩) else z.security
                | .day => if z.security.isIntruder then z.security else .off
              else z.security }) s.dev.zones }))

/-- R116: CLEAR_LATCHES takes to OFF the live latched ON entries whose truth is false and counts them; an entry that reads
global flags alone stays where it is then. -/
def Obligations.ClearLatches : Prop :=
  ∀ (s : State) (h : Header) (k : Nat), s.dev.hears h k → s.dev.isRunning = true →
    let released : Nat → Bool := fun e => (s.dev.rule? e).any fun r =>
      s.dev.live e && r.latch && r.outcome == .on && !s.dev.truth r
    (∃ t, exec (.clearLatches h []) s = .next t ∧ Answers s t 0x21 h .ok (.count ((List.range 128).countP released)) ∧
      t.dev.base = (s.dev.heard k).base ∧
      (∀ e r a b, s.dev.rule? e = some r → r.a = .global a → r.b = .global b → s.dev.live e = true →
        t.dev.rule? e = some { r with outcome := if released e then .off else r.outcome })) ∧
    (∀ e r, s.dev.rule? e = some r →
      (s.dev.applyOutcomes s.dev.latchesCleared).rule? e = some { r with outcome := if released e then .off else r.outcome })

/-- R50, R51, R52, R56, R58, R59: ACK_ALARM and CANCEL_VERIFY from a guard's station, RESET_FIRE from any; SILENCE and RESOUND
turn the circuits and nothing else but what they queue. -/
def Obligations.FireRequests : Prop :=
  (∀ (s : State) (h : Header) (k : Nat) (x : Byte), s.dev.hears h k → s.dev.isRunning = true →
    (h.station.toNat = 15 →
      exec (.ackAlarm h [x]) s = s.after ((s.dev.heard k).answered 0x22 h .badStation) ∧
      exec (.cancelVerify h [x]) s = s.after ((s.dev.heard k).answered 0x23 h .badStation)) ∧
    (s.dev.zone? x.toNat = none →
      (h.station.toNat < 8 →
        exec (.ackAlarm h [x]) s = s.after ((s.dev.heard k).answered 0x22 h .badIndex) ∧
        exec (.cancelVerify h [x]) s = s.after ((s.dev.heard k).answered 0x23 h .badIndex)) ∧
      exec (.resetFire h [x]) s = s.after ((s.dev.heard k).answered 0x24 h .badIndex)) ∧
    (∀ r, s.dev.zone? x.toNat = some r →
      (h.station.toNat < 8 → (∀ tm o, r.fire ≠ .verify .ackWait tm o) →
        exec (.ackAlarm h [x]) s = s.after ((s.dev.heard k).answered 0x22 h .badState)) ∧
      (h.station.toNat < 8 → ∀ tm o, r.fire = .verify .ackWait tm o →
        ∃ t, exec (.ackAlarm h [x]) s = .next t ∧
          Answers s t 0x22 h .ok (.fire .verifySearch (some r.searchTime)) ∧
          t.dev.base = ((s.dev.heard k).putZone x.toNat { r with
            fire := .verify (.search h.station.toNat) ⟨s.dev.clock, r.searchTime⟩ o }).base) ∧
      (h.station.toNat < 8 → r.fire.isVerify = false →
        exec (.cancelVerify h [x]) s = s.after ((s.dev.heard k).answered 0x23 h .badState)) ∧
      (h.station.toNat < 8 → r.fire.isVerify = true → 0 < r.activeCount →
        exec (.cancelVerify h [x]) s = s.after ((s.dev.heard k).answered 0x23 h .stillActive)) ∧
      (h.station.toNat < 8 → r.fire.isVerify = true → r.activeCount = 0 →
        ∃ t, exec (.cancelVerify h [x]) s = .next t ∧
          Answers s t 0x23 h .ok (.fire (if 0 < r.preCount then .pre else .quiet) none) ∧
          t.dev.base = ((s.dev.heard k).putZone x.toNat { r with
            fire := if 0 < r.preCount then .pre else .quiet }).base) ∧
      (r.fire.isAlarm = false →
        exec (.resetFire h [x]) s = s.after ((s.dev.heard k).answered 0x24 h .badState)) ∧
      (r.fire.isAlarm = true → 0 < r.activeCount →
        exec (.resetFire h [x]) s = s.after ((s.dev.heard k).answered 0x24 h .stillActive)) ∧
      (r.fire.isAlarm = true → r.activeCount = 0 →
        let d := (s.dev.heard k).putZone x.toNat { r with fire := if 0 < r.preCount then .pre else .quiet }
        ∃ t, exec (.resetFire h [x]) s = .next t ∧
          Answers s t 0x24 h .ok (.fire (if 0 < r.preCount then .pre else .quiet) none) ∧
          t.dev.base = { d with
            alarmHold := if d.anyAlarm then s.dev.alarmHold else some ⟨s.dev.clock, 60⟩ }.base))) ∧
  (∀ (s : State) (h : Header) (k : Nat), s.dev.hears h k → s.dev.isRunning = true →
    (∃ t, exec (.silence h []) s = .next t ∧
      Answers s t 0x25 h .ok (.count (s.dev.sounders.toList.countP fun c => c.state == .sounding)) ∧
      t.dev.link.base = (s.dev.heard k).link.base ∧
      t.dev = { s.dev with link := t.dev.link, sounders := Tab.map (fun c => { c with
        state := if c.state = .sounding then .silenced else c.state }) s.dev.sounders }) ∧
    (∃ t, exec (.resound h []) s = .next t ∧
      Answers s t 0x26 h .ok (.count (s.dev.sounders.toList.countP fun c => c.state == .silenced)) ∧
      t.dev.link.base = (s.dev.heard k).link.base ∧
      t.dev = { s.dev with link := t.dev.link, sounders := Tab.map (fun c => { c with
        state := if c.state = .silenced then .sounding else c.state }) s.dev.sounders }))

/-- R66, R69, R70, R76, R178: ARM_ZONE and DISARM_ZONE on one zone or a run, and RESET_INTRUDER. That the
reply of a single request carries no count is the model's reading (log 33). -/
def Obligations.Guarding : Prop :=
  ∀ (s : State) (h : Header) (k : Nat) (x : Byte), s.dev.hears h k → s.dev.isRunning = true →
    let run := s.dev.runOf k x.toNat 47
    let arms : Nat → Bool := fun z => (s.dev.zone? z).any fun r => r.policy != .never && r.security.isUnset
    let disarms : Nat → Bool := fun z => (s.dev.zone? z).any fun r => !r.security.isIntruder && r.security != .off
    let count : (Nat → Bool) → Content := fun f => if s.dev.slot k = none then .none else .count (run.countP f)
    (48 ≤ x.toNat ∨ (s.dev.slot k = none ∧ s.dev.zone? x.toNat = none) →
      exec (.armZone h [x]) s = s.after ((s.dev.heard k).answered 0x27 h .badIndex) ∧
      exec (.disarmZone h [x]) s = s.after ((s.dev.heard k).answered 0x28 h .badIndex)) ∧
    (∀ r, s.dev.slot k = none → s.dev.zone? x.toNat = some r →
      (r.policy = .never → exec (.armZone h [x]) s = s.after ((s.dev.heard k).answered 0x27 h .badState)) ∧
      (r.security.isIntruder = true →
        exec (.disarmZone h [x]) s = s.after ((s.dev.heard k).answered 0x28 h .stillActive))) ∧
    (x.toNat < 48 →
      (s.dev.slot k = none → ∃ r, s.dev.zone? x.toNat = some r ∧ r.policy ≠ .never) →
      ∃ t, exec (.armZone h [x]) s = .next t ∧ Answers s t 0x27 h .ok (count arms) ∧
        t.dev.base = ({ s.dev.heard k with zones := Tab.build 48 fun z => (s.dev.zone? z).map fun r =>
          if z ∈ run ∧ (arms z) then { r with
            security := if r.exitDelay = 0 then (if 0 < r.openContacts then .unsetFault else .armed)
              else .setting ⟨s.dev.clock, r.exitDelay⟩ }
          else r } : Device).base) ∧
    (x.toNat < 48 →
      (s.dev.slot k = none → ∃ r, s.dev.zone? x.toNat = some r ∧ r.security.isIntruder = false) →
      ∃ t, exec (.disarmZone h [x]) s = .next t ∧ Answers s t 0x28 h .ok (count disarms) ∧
        t.dev.base = ({ s.dev.heard k with zones := Tab.build 48 fun z => (s.dev.zone? z).map fun r =>
          if z ∈ run ∧ (disarms z) then { r with security := .off } else r } : Device).base) ∧
    (s.dev.zone? x.toNat = none →
      exec (.resetIntruder h [x]) s = s.after ((s.dev.heard k).answered 0x29 h .badIndex)) ∧
    (∀ r, s.dev.zone? x.toNat = some r →
      (r.security.isIntruder = false →
        exec (.resetIntruder h [x]) s = s.after ((s.dev.heard k).answered 0x29 h .badState)) ∧
      (r.security.isIntruder = true → 0 < r.openCases →
        exec (.resetIntruder h [x]) s = s.after ((s.dev.heard k).answered 0x29 h .stillActive)) ∧
      (r.security.isIntruder = true → r.openCases = 0 →
        let on := r.policy = .always ∨ (r.policy = .night ∧ s.dev.regime = .night)
        ∃ t, exec (.resetIntruder h [x]) s = .next t ∧
          Answers s t 0x29 h .ok (.security (if on then .armed else .off)) ∧
          t.dev.base = ((s.dev.heard k).putZone x.toNat { r with security := if on then .armed else .off }).base))

/-- R15, R16, R17, R28, R43, R65, R178: DISABLE_POINT and ENABLE_POINT on one point or a run. That the confirm count of a
disabled point falls to 0 as R28 says, while R16 keeps the rest of its arithmetic part (log 4), and that the reply of a
single request carries no count (log 33), are the model's readings. -/
def Obligations.PointsSwitched : Prop :=
  ∀ (s : State) (h : Header) (k : Nat) (x : Byte), s.dev.hears h k →
    let run := s.dev.runOf k x.toNat 255
    let turns : Bool → Nat → Bool := fun on p => (s.dev.point p).kind != .absent && (s.dev.point p).enabled == on
    let count : Bool → Content := fun on => if s.dev.slot k = none then .none else .count (run.countP (turns on))
    (s.dev.slot k = none → (s.dev.point x.toNat).kind = .absent →
      exec (.disablePoint h [x]) s = s.after ((s.dev.heard k).answered 0x2A h .badState) ∧
      exec (.enablePoint h [x]) s = s.after ((s.dev.heard k).answered 0x2B h .badState)) ∧
    ((s.dev.slot k = none → (s.dev.point x.toNat).kind ≠ .absent) →
      (∃ t, exec (.disablePoint h [x]) s = .next t ∧ Answers s t 0x2A h .ok (count true) ∧
        (∀ p, p ∈ run → turns true p = true →
          t.dev.point p = { s.dev.point p with
            enabled := false, condition := .normal, clearMark := false
            arith := (s.dev.point p).arith.map fun a => { a with confirm := 0 } }) ∧
        (∀ p, ¬(p ∈ run ∧ turns true p = true) → t.dev.point p = s.dev.point p) ∧
        (∀ l, t.dev.loop l = { s.dev.loop l with
          confirmQueue := (s.dev.loop l).confirmQueue.filter fun a =>
            !(a < 64 && run.contains (64 * l + a) && turns true (64 * l + a)) }) ∧
        t.dev.base = { (s.dev.heard k).base with
          points := t.dev.points, loops := t.dev.loops, zones := t.dev.base.zones } ∧
        (∀ z r, s.dev.zone? z = some r → ∃ r', t.dev.zone? z = some r' ∧
          (let gone : (PointKind → Bool) → Condition → Nat := fun kinds c => run.countP fun p => turns true p &&
            (kinds (s.dev.point p).kind && (s.dev.point p).zone == z && (s.dev.point p).condition == c)
           r'.base = { r.base with
            fire := r'.fire
            preCount := r.preCount - gone isFireKind .pre, activeCount := r.activeCount - gone isFireKind .active
            openContacts := r.openContacts - gone (· == .contact) .active
            openCases := r.openCases - gone (· == .case) .active }) ∧
          (r.fire.hot = true → r'.fire = r.fire) ∧ (r.fire.hot = false → r'.fire = .quiet ∨ r'.fire = .pre)) ∧
        (∀ z r, s.dev.zone? z = some r → (∀ p, p ∈ run → turns true p = true → (s.dev.point p).condition ≠ .normal →
          (s.dev.point p).zone ≠ z) → ∃ r', t.dev.zone? z = some r' ∧ r'.base = r.base)) ∧
      exec (.enablePoint h [x]) s = s.after (
        ({ s.dev.heard k with points := Tab.build 256 fun p =>
          if p ∈ run ∧ (turns false p) then { s.dev.point p with
            enabled := true, clearMark := false
            arith := (s.dev.point p).arith.map fun a => { a with confirm := 0, ring := [] } }
          else (s.dev.point p) } : Device).answered 0x2B h .ok (count false)))

/-- R80, R86, R89, R178: DOOR_GUARD and SCHEDULE on one door or a run. When a run clamps a duration that no door takes, the
reply is OK (log 24), and the reply of a single request carries no count (log 33): the model's readings. -/
def Obligations.DoorDemands : Prop :=
  ∀ (s : State) (h : Header) (k : Nat) (n act t1 t0 : Byte), s.dev.hears h k → s.dev.isRunning = true →
    let run := s.dev.runOf k n.toNat 31
    let guard := exec (.doorGuard h [n, act, t1, t0]) s
    let schedule := exec (.schedule h [n, act]) s
    let seconds := t1.toNat * 256 + t0.toNat
    let drive : Option Drive := Drive.ofCode act.toNat
    let fits : Nat → Bool := fun x => (s.dev.door? x).any fun r => drive.all r.kind.fits
    let demand : Option StationDemand := drive.map fun v => {
      drive := v, station := h.station.toNat
      timer := if seconds = 0 then none else some ⟨s.dev.clock, min 3600 seconds⟩ }
    (32 ≤ n.toNat ∨ (s.dev.slot k = none ∧ s.dev.door? n.toNat = none) →
      guard = s.after ((s.dev.heard k).answered 0x2C h .badIndex) ∧
      schedule = s.after ((s.dev.heard k).answered 0x2D h .badIndex)) ∧
    (n.toNat < 32 → (s.dev.slot k = none → s.dev.door? n.toNat ≠ none) →
      (5 ≤ act.toNat →
        guard = s.after ((s.dev.heard k).answered 0x2C h .badValue) ∧
        schedule = s.after ((s.dev.heard k).answered 0x2D h .badValue)) ∧
      (act.toNat ≤ 4 → s.dev.slot k = none → fits n.toNat = false →
        guard = s.after ((s.dev.heard k).answered 0x2C h .badAction) ∧
        schedule = s.after ((s.dev.heard k).answered 0x2D h .badAction)) ∧
      (act.toNat ≤ 4 → (s.dev.slot k = none → fits n.toNat = true) →
        (∃ t, guard = .next t ∧
          Answers s t 0x2C h (if 3600 < seconds ∧ drive ≠ none ∧ ∃ x ∈ run, fits x = true then .clamped else .ok)
            (if s.dev.slot k = none then .none else .count (run.countP fun x =>
              fits x && (drive.isSome || (s.dev.door? x).any fun r => r.demands.station.isSome))) ∧
          t.dev.base = ({ s.dev.heard k with doors := Tab.build 32 fun x => (s.dev.door? x).map fun r =>
            if x ∈ run ∧ (fits x) then { r with demands := { r.demands with station := demand } } else r } : Device).base) ∧
        (∃ t, schedule = .next t ∧
          Answers s t 0x2D h .ok (if s.dev.slot k = none then .none else .count (run.countP fun x =>
            fits x && (s.dev.door? x).any fun r => r.demands.timetable != drive)) ∧
          t.dev.base = ({ s.dev.heard k with doors := Tab.build 32 fun x => (s.dev.door? x).map fun r =>
            if x ∈ run ∧ (fits x) then { r with demands := { r.demands with timetable := drive } } else r } : Device).base)))

/-- R127, R130, R132, R133, R134 and the opening steps of section 7.5: CLAIM_CALL, RELEASE_CALL and CLOSE_CALL. -/
def Obligations.CallRequests : Prop :=
  ∀ (s : State) (h : Header) (k : Nat) (x : Byte), s.dev.hears h k → s.dev.isRunning = true → CallLaw s.dev →
    let station := h.station.toNat
    (station = 15 →
      exec (.claimCall h [x]) s = s.after ((s.dev.heard k).answered 0x2E h .badStation) ∧
      exec (.releaseCall h [x]) s = s.after ((s.dev.heard k).answered 0x2F h .badStation) ∧
      exec (.closeCall h [x]) s = s.after ((s.dev.heard k).answered 0x30 h .badStation)) ∧
    (station < 8 → (∀ c ∈ s.dev.board.calls, c.number ≠ x.toNat) →
      exec (.claimCall h [x]) s = s.after ((s.dev.heard k).answered 0x2E h .badIndex) ∧
      exec (.releaseCall h [x]) s = s.after ((s.dev.heard k).answered 0x2F h .badIndex) ∧
      exec (.closeCall h [x]) s = s.after ((s.dev.heard k).answered 0x30 h .badIndex)) ∧
    (station < 8 → ∀ c ∈ s.dev.board.calls, c.number = x.toNat →
      (c.state = .claimed station → exec (.claimCall h [x]) s = s.after ((s.dev.heard k).answered 0x2E h .ok
        (.call c.number c.point (.claimed station) (some c.priority) none))) ∧
      (∀ owner, c.state = .claimed owner → owner ≠ station →
        exec (.claimCall h [x]) s = s.after ((s.dev.heard k).answered 0x2E h .heldElsewhere (.owner owner))) ∧
      ((∀ owner, c.state ≠ .claimed owner) → s.dev.board.owned station = 2 →
        exec (.claimCall h [x]) s = s.after ((s.dev.heard k).answered 0x2E h .limit)) ∧
      ((∀ owner, c.state ≠ .claimed owner) → s.dev.board.owned station < 2 →
        ∃ t, exec (.claimCall h [x]) s = .next t ∧
          Answers s t 0x2E h .ok (.call c.number c.point (.claimed station) (some c.priority) none) ∧
          t.dev.base = ({ s.dev.heard k with
            board := s.dev.board.replace { c with state := .claimed station } } : Device).base) ∧
      (c.state ≠ .claimed station →
        exec (.releaseCall h [x]) s = s.after ((s.dev.heard k).answered 0x2F h .notOwner) ∧
        exec (.closeCall h [x]) s = s.after ((s.dev.heard k).answered 0x30 h .notOwner)) ∧
      (c.state = .claimed station →
        (∃ t, exec (.releaseCall h [x]) s = .next t ∧
          Answers s t 0x2F h .ok (.call c.number c.point .waiting (some c.priority) none) ∧
          (∃ c' ∈ t.dev.board.calls, c'.number = c.number ∧ c'.state = .waiting s.dev.clock) ∧
          t.dev.base = ({ s.dev.heard k with
            board := s.dev.board.replace { c with state := .waiting s.dev.clock } } : Device).base) ∧
        (let others := s.dev.board.calls.filter fun y => y.number != c.number
         ∃ t, exec (.closeCall h [x]) s = .next t ∧
          Answers s t 0x30 h .ok (.call c.number c.point .closed none s.dev.board.waitingPoints.head?) ∧
          (s.dev.board.waitingPoints = [] →
            t.dev.base = ({ s.dev.heard k with board := { s.dev.board with calls := others } } : Device).base) ∧
          (∀ p rest, s.dev.board.waitingPoints = p :: rest → ∃ n, NextFree (others.map (·.number)) s.dev.board.callCounter n ∧
            let kind : CallKind := if (s.dev.point p).kind = .refuge then .refuge else .help
            let made : Call := {
              number := n, point := p, zone := (s.dev.point p).zone, kind := kind, arrival := s.dev.board.arrivalCounter
              priority := s.dev.rank kind (s.dev.point p).zone, state := .waiting s.dev.clock, repeats := 0 }
            t.dev.board.calls.getLast? = some made ∧
            t.dev.base = ({ s.dev.heard k with board := {
              calls := others ++ [made], waitingPoints := rest, callCounter := (n + 1) % 256
              arrivalCounter := (s.dev.board.arrivalCounter + 1) % 65536 } } : Device).base))))

/-- R160, R164, R165, R166: GROUP_STOP, GROUP_RUN and TEST_START; every sign then shows what its group asks. -/
def Obligations.Groups : Prop :=
  ∀ (s : State) (h : Header) (k : Nat) (x : Byte), s.dev.hears h k → s.dev.isRunning = true →
    (8 ≤ x.toNat →
      exec (.groupStop h [x]) s = s.after ((s.dev.heard k).answered 0x31 h .badIndex) ∧
      exec (.groupRun h [x]) s = s.after ((s.dev.heard k).answered 0x32 h .badIndex) ∧
      exec (.testStart h [x]) s = s.after ((s.dev.heard k).answered 0x33 h .badIndex)) ∧
    (x.toNat < 8 →
      let g := s.dev.group x.toNat
      let left : State → Group → Prop := fun t g' =>
        t.dev.link.base = (s.dev.heard k).link.base ∧
        t.dev = { s.dev with
          link := t.dev.link, signs := t.dev.signs, signLine := t.dev.signLine
          groups := Tab.put s.dev.groups x.toNat g' } ∧
        (∀ n, t.dev.sign? n = (s.dev.sign? n).map fun r => { r with shown := t.dev.shownFor r })
      (g.state = .stopped →
        exec (.groupStop h [x]) s = s.after ((s.dev.heard k).answered 0x31 h .ok (.group .stopped))) ∧
      (g.state ≠ .stopped → ∃ t, exec (.groupStop h [x]) s = .next t ∧ Answers s t 0x31 h .ok (.group .stopped) ∧
        left t { g with state := .stopped }) ∧
      (g.state = .run → exec (.groupRun h [x]) s = s.after ((s.dev.heard k).answered 0x32 h .ok (.group .run))) ∧
      (g.state ≠ .run → ∃ t, exec (.groupRun h [x]) s = .next t ∧ Answers s t 0x32 h .ok (.group .run) ∧
        left t { g with state := .run }) ∧
      (g.state ≠ .stopped → exec (.testStart h [x]) s = s.after ((s.dev.heard k).answered 0x33 h .badState)) ∧
      (g.state = .stopped → s.dev.anyHot = true →
        exec (.testStart h [x]) s = s.after ((s.dev.heard k).answered 0x33 h .stillActive)) ∧
      (g.state = .stopped → s.dev.anyHot = false → ∃ t, exec (.testStart h [x]) s = .next t ∧
        Answers s t 0x33 h .ok (.testLength g.testLength) ∧ left t { g with state := .test 0 ⟨s.dev.clock, 2⟩ }))

/-! ### Time, timers and field lines -/

/-- R46, R49, R56, R66, R73, R112, R185, R190: a second passes; the mains-status input changes, and the flag follows it; the
fire timer, the alarm hold, the exit delay and the entry delay, of which an expiry that is not due changes nothing (log 2).
-/
def Obligations.TimeAndZones : Prop :=
  (∀ s : State, s.dev.up = true →
    exec .timeBaseTick s = s.after { s.dev with clock := s.dev.clock + 1 } ∧
    ∀ failed, let inputs : Inputs := { s.dev.inputs with mainsFailed := failed }
      (failed = s.dev.mainsFail → exec (.mainsChange failed) s = s.after { s.dev with inputs := inputs }) ∧
      (failed ≠ s.dev.mainsFail → ∃ t, exec (.mainsChange failed) s = .next t ∧ t.pending = s.pending ∧
        t.dev.base = { s.dev with inputs := inputs, mainsFail := failed }.base)) ∧
  (∀ s : State, s.dev.up = true →
    (∀ z r ph tm o, s.dev.zone? z = some r → r.fire = .verify ph tm o →
      (tm.due s.dev.clock = false → exec (.fireTimerExpiry z) s = .next s) ∧
      (tm.due s.dev.clock = true →
        let cause := match ph with
          | .ackWait => AlarmCause.ackExpiry
          | .search _ => .searchExpiry
        let d := s.dev.putZone z { r with fire := .alarm cause none s.dev.clock (some o) ph.ackStation }
        ∃ t, exec (.fireTimerExpiry z) s = .next t ∧ t.pending = s.pending ∧
          t.dev.base = { d with alarmHold := if s.dev.anyAlarm then s.dev.alarmHold else none }.base)) ∧
    (∀ z, (s.dev.fire z).isVerify = false → exec (.fireTimerExpiry z) s = .next s) ∧
    (∀ z, (∀ r tm, s.dev.zone? z = some r → r.security ≠ .setting tm) → exec (.exitDelayExpiry z) s = .next s) ∧
    (∀ z, (∀ r tm src, s.dev.zone? z = some r → r.security ≠ .entry tm src) → exec (.entryDelayExpiry z) s = .next s) ∧
    ((∀ tm, s.dev.alarmHold = some tm → tm.due s.dev.clock = false) → exec .alarmHoldExpiry s = .next s) ∧
    (∀ tm, s.dev.alarmHold = some tm → tm.due s.dev.clock = true →
      ∃ t, exec .alarmHoldExpiry s = .next t ∧ t.pending = s.pending ∧
        t.dev.base = { s.dev with alarmHold := none }.base) ∧
    (∀ z r tm, s.dev.zone? z = some r → r.security = .setting tm →
      (tm.due s.dev.clock = false → exec (.exitDelayExpiry z) s = .next s) ∧
      (tm.due s.dev.clock = true → ∃ t, exec (.exitDelayExpiry z) s = .next t ∧ t.pending = s.pending ∧
        t.dev.base = (s.dev.putZone z { r with
          security := if 0 < r.openContacts then .unsetFault else .armed }).base)) ∧
    (∀ z r tm src, s.dev.zone? z = some r → r.security = .entry tm src →
      (tm.due s.dev.clock = false → exec (.entryDelayExpiry z) s = .next s) ∧
      (tm.due s.dev.clock = true → ∃ t, exec (.entryDelayExpiry z) s = .next t ∧ t.pending = s.pending ∧
        t.dev.base = (s.dev.putZone z { r with security := .intruder .entryExpiry src s.dev.clock }).base)))

/-- R87, R92, R95, R96, R97, R98, R102: the timers of a door; an expiry that is not due changes nothing (log 2). -/
def Obligations.DoorTimers : Prop :=
  ∀ (s : State) (n : Nat) (r : Door), s.dev.up = true → s.dev.door? n = some r →
    let stops : Option Timer → Instr → Prop := fun timer i =>
      (∀ tm, timer = some tm → tm.due s.dev.clock = false) → exec i s = .next s
    let leaves : Option Timer → Instr → Door → Prop := fun timer i r' =>
      ∀ tm, timer = some tm → tm.due s.dev.clock = true → ∃ t, exec i s = .next t ∧ t.pending = s.pending ∧
        t.dev.link.base = s.dev.link.base ∧ t.dev = { s.dev.putDoor n r' with link := t.dev.link }
    stops r.confirm (.confirmTimerExpiry n) ∧ stops r.held (.heldTimerExpiry n) ∧ stops r.shunt (.shuntTimerExpiry n) ∧
    stops r.watch (.nodeWatchExpiry n) ∧ stops (r.demands.station.bind fun x => x.timer) (.stationDemandExpiry n) ∧
    leaves r.confirm (.confirmTimerExpiry n) { r with confirm := none, condition := some .lockFail } ∧
    leaves r.held (.heldTimerExpiry n) { r with held := none, condition := some .held } ∧
    leaves r.shunt (.shuntTimerExpiry n) { r with shunt := none } ∧
    leaves r.watch (.nodeWatchExpiry n)
      { r with health := .silent, watch := none, confirm := none, held := none, condition := some .nodeFault } ∧
    (s.dev.isRunning = false → exec (.stationDemandExpiry n) s = .next s) ∧
    (∀ x tm, s.dev.isRunning = true → r.demands.station = some x → x.timer = some tm → tm.due s.dev.clock = true →
      ∃ t, exec (.stationDemandExpiry n) s = .next t ∧ t.pending = s.pending ∧
        t.dev.base = (s.dev.putDoor n { r with demands := { r.demands with station := none } }).base)

/-- R82, R98: a status reaches the door of the exchange in flight, its node counts as heard, and the line goes on; of the
zones only a security state may move. A status without an exchange in flight changes nothing (the model's choice, log 2). -/
def Obligations.DoorStatus : Prop :=
  ∀ (s : State) (leaf : Leaf) (lock : LockPos) (rex : Bool), s.dev.up = true →
    (s.dev.doorLine.exchange = none → exec (.doorStatus leaf lock rex) s = .next s) ∧
    (∀ n r, s.dev.doorLine.exchange = some n → s.dev.door? n = some r →
      ∃ t r', exec (.doorStatus leaf lock rex) s = .next t ∧ t.pending = s.pending ∧ t.dev.door? n = some r' ∧
        r'.leaf = some leaf ∧ (r.kind.lockable = true → r'.lock = some lock) ∧ r'.health = .ok ∧
        r'.watch = some ⟨s.dev.clock, 3⟩ ∧ r'.condition ≠ none ∧ t.dev.doorLine.exchange ≠ none ∧
        { r'.base with leaf := r.leaf, lock := r.lock, health := r.health, watch := r.watch, shunt := r.shunt } = r.base ∧
        (∀ m x, m ≠ n → s.dev.door? m = some x → ∃ x', t.dev.door? m = some x' ∧ x'.base = x.base) ∧
        (∀ z x, s.dev.zone? z = some x → ∃ x', t.dev.zone? z = some x' ∧ { x'.base with security := x.security } = x.base) ∧
        t.dev.base = { s.dev.base with
          doors := t.dev.base.doors, zones := t.dev.base.zones, doorLine := t.dev.base.doorLine })

/-- R90 to R99: what a status makes of a door's condition and timers, for a lockable door, a fire leaf and a node judged
afresh, and of the shunt, which a REX press starts and an excused opening ends. -/
def Obligations.DoorConditions : Prop :=
  ∀ (d : Device) (n : Nat) (r : Door) (leaf : Leaf) (lock : LockPos) (rex : Bool), d.door? n = some r →
    let after : (Door → Prop) → Prop := fun f => ∃ r', (d.takeStatus n leaf lock rex).door? n = some r' ∧ f r'
    let opens : Prop := r.health = .ok ∧ r.condition ≠ none ∧ r.kind.lockable = true ∧ r.drive ≠ .unlock ∧
      r.leaf ≠ some .opened ∧ leaf = .opened
    (after fun x => x.shunt =
      if opens then none
      else if r.kind.lockable = true ∧ rex = true then some ⟨d.clock, 10⟩ else r.shunt) ∧
    (∀ c, r.health = .ok → r.condition = some c → r.kind.lockable = true →
      (r.leaf = some .closed → leaf = .opened →
        (r.drive = .unlock → after fun x => x.condition = some .opened ∧ x.confirm = none ∧ x.held = r.held) ∧
        (r.drive ≠ .unlock → r.shunt.isSome = true ∨ rex = true → after fun x =>
          x.condition = some .opened ∧ x.held = some ⟨d.clock, r.heldLimit⟩ ∧ x.shunt = none ∧ x.confirm = none) ∧
        (r.drive ≠ .unlock → r.shunt = none → rex = false → after fun x =>
          x.condition = some .forced ∧ x.confirm = none ∧ x.held = r.held)) ∧
      (r.leaf = some .opened → leaf = .closed →
        (r.drive = .unlock → after fun x => x.condition = some .free ∧ x.held = none) ∧
        (r.drive ≠ .unlock → lock = .unlocked → after fun x =>
          x.condition = some .locking ∧ x.confirm = some ⟨d.clock, 3⟩ ∧ x.held = none) ∧
        (r.drive ≠ .unlock → lock = .locked → after fun x =>
          x.condition = some .secure ∧ x.confirm = none ∧ x.held = none)) ∧
      (r.leaf = some leaf → lock = .locked → c = .locking ∨ c = .lockFail → after fun x =>
        x.condition = some .secure ∧ x.confirm = none) ∧
      (r.leaf = some leaf → lock = .unlocked → r.lock ≠ some .unlocked → c = .secure → r.drive = .lock → after fun x =>
        x.condition = some .locking ∧ x.confirm = some ⟨d.clock, 3⟩) ∧
      (r.leaf = some leaf → (lock = .locked → c ≠ .locking ∧ c ≠ .lockFail) →
        (lock = .unlocked → r.lock ≠ some .unlocked → c = .secure → r.drive ≠ .lock) → after fun x =>
          x.lock = some lock ∧ x.condition = r.condition ∧ x.confirm = r.confirm ∧ x.held = r.held)) ∧
    (∀ c, r.health = .ok → r.condition = some c → r.kind.lockable = false →
      (r.leaf = some .closed → leaf = .opened → after fun x => x.condition = some .opened ∧
        x.held = if r.drive = .close then some ⟨d.clock, r.heldLimit⟩ else r.held) ∧
      (r.leaf = some .opened → leaf = .closed → after fun x => x.condition = some .secure ∧ x.held = none) ∧
      (r.leaf = some leaf → after fun x => x.condition = r.condition ∧ x.held = r.held)) ∧
    (r.health = .silent ∨ r.condition = none → after fun x =>
      x.health = .ok ∧ x.leaf = some leaf ∧ x.lock = (if r.kind.lockable then some lock else none) ∧
      x.condition = some (if r.kind.lockable then
          (if r.drive = .unlock then (if leaf = .closed then .free else .opened)
          else if leaf = .opened then .lockWait else if lock = .locked then .secure else .locking)
        else if leaf = .closed then .secure else .opened) ∧
      x.confirm = (if r.kind.lockable ∧ r.drive ≠ .unlock ∧ leaf = .closed ∧ lock = .unlocked then some ⟨d.clock, 3⟩ else none) ∧
      x.held = if leaf = .opened ∧ ((r.kind.lockable = true ∧ r.drive ≠ .unlock) ∨
          (r.kind.lockable = false ∧ r.drive = .close)) then some ⟨d.clock, r.heldLimit⟩ else none)

/-- R82, R83, R90, R91, R96, R97, R100: a change of a door's demands. The drive and the deciding level are those of the highest
demand present; a changed drive is reported, judged against the condition and its timers, put among the early exchanges and,
where it changes the usability of a named lockable door, taken by the route engine; a changed level alone is reported. -/
def Obligations.DriveJudged : Prop :=
  ∀ (d : Device) (n : Nat) (r : Door) (m : Demands), d.door? n = some r → r.demands ≠ m →
    let t := d.setDemands n m
    ∃ x : Door, t.door? n = some x ∧
      x = { r with
        demands := m, drive := x.drive, level := x.level, condition := x.condition, confirm := x.confirm, held := x.held } ∧
      (∀ v, m.life = some v → x.drive = v ∧ x.level = .life) ∧
      (m.life = none →
        (∀ v, m.rule = some v → x.drive = v ∧ x.level = .rule) ∧
        (m.rule = none →
          (∀ v, m.station = some v → x.drive = v.drive ∧ x.level = .station) ∧
          (m.station = none →
            (∀ v, m.intrusion = some v → x.drive = v ∧ x.level = .intrusion) ∧
            (m.intrusion = none →
              (∀ v, m.timetable = some v → x.drive = v ∧ x.level = .timetable) ∧
              (m.timetable = none → x.drive = (if r.kind = .fireLeaf then .holdOpen else .lock) ∧ x.level = .rest))))) ∧
      (x.drive = r.drive → (x.condition, x.confirm, x.held) = (r.condition, r.confirm, r.held)) ∧
      (x.drive ≠ r.drive →
        (x.drive = .lock → (x.condition, x.confirm, x.held) =
          if r.condition = some .free then (some .locking, some ⟨d.clock, 3⟩, r.held)
          else if r.condition = some .opened then (some .lockWait, r.confirm, some ⟨d.clock, r.heldLimit⟩)
          else (r.condition, r.confirm, r.held)) ∧
        (x.drive = .unlock → x.confirm = none ∧ x.held = none ∧ x.condition =
          if r.condition = some .secure ∨ r.condition = some .locking ∨ r.condition = some .lockFail then some .free
          else if r.condition = some .lockWait ∨ r.condition = some .forced ∨ r.condition = some .held then some .opened
          else r.condition) ∧
        (x.drive = .close → x.condition = r.condition ∧ x.confirm = r.confirm ∧
          x.held = if r.condition = some .opened then some ⟨d.clock, r.heldLimit⟩ else r.held) ∧
        (x.drive = .holdOpen → x.confirm = r.confirm ∧ x.held = none ∧
          x.condition = if r.condition = some .held then some .opened else r.condition)) ∧
      t.link = (
        let told := if x.drive = r.drive ∧ x.level = r.level then d else d.report .door n (.doorDrive x.drive x.level)
        match x.condition with
        | none => told
        | some c => if r.condition = some c then told else told.report .door n (.doorCondition c)).link ∧
      t.doorLine = (if x.drive = r.drive then d.doorLine
        else { d.doorLine with early := Tab.put d.doorLine.early n true }) ∧
      (let moves : Prop := d.isRunning = true ∧ r.kind ≠ .fireLeaf ∧ x.drive ≠ r.drive ∧
          ∃ i p, d.passage? i = some p ∧ p.door = some n
       (moves → (x.drive = .unlock → t.route = d.route.trigger false ∧ t.signs = d.signs) ∧
          (r.drive = .unlock → t.route = d.route.trigger true ∧ t.signs = (d.blankInto (.door n)).signs)) ∧
        (¬(moves ∧ (x.drive = .unlock ∨ r.drive = .unlock)) → t.route = d.route ∧ t.signs = d.signs)) ∧
      t = { d with
        doors := Tab.put d.doors n (some x), doorLine := t.doorLine, link := t.link, route := t.route, signs := t.signs }

/-- R82, R160: an unanswered door exchange and the end of a sign send change nothing but which exchange or send comes next:
the lowest that awaits an early one, else the next loaded one of the round, with its wrap. That nothing happens
without an exchange or send under way (log 2), and that an early exchange leaves the place of the round (log 21), are the
model's choices. -/
def Obligations.LineRounds : Prop :=
  ∀ s : State, s.dev.up = true →
    (s.dev.doorLine.exchange = none → exec .doorExchangeUnanswered s = .next s) ∧
    (s.dev.signLine.sending = none → exec .signSendComplete s = .next s) ∧
    (s.dev.doorLine.exchange ≠ none →
      let early : Nat → Bool := fun m => Tab.getD s.dev.doorLine.early m false && (s.dev.door? m).isSome
      let loaded : Nat → Bool := fun m => (s.dev.door? m).isSome
      let goes : DoorLine → Prop := fun x =>
        exec .doorExchangeUnanswered s = s.after ({ s.dev with doorLine := x } : Device).transmit
      (∀ m, early m = true → (∀ j, j < m → early j = false) →
        goes { s.dev.doorLine with exchange := some m, early := Tab.put s.dev.doorLine.early m false }) ∧
      ((∀ m, early m = false) →
        (∀ k m, s.dev.doorLine.round = some k → k < m → loaded m = true → (∀ j, k < j → j < m → loaded j = false) →
          goes { s.dev.doorLine with exchange := some m, round := some m }) ∧
        (∀ m, (∀ k, s.dev.doorLine.round = some k → ∀ j, k < j → loaded j = false) → loaded m = true →
          (∀ j, j < m → loaded j = false) → goes { s.dev.doorLine with exchange := some m, round := some m }) ∧
        ((∀ m, loaded m = false) → goes { s.dev.doorLine with exchange := none }))) ∧
    (s.dev.signLine.sending ≠ none →
      let early : Nat → Bool := fun m => Tab.getD s.dev.signLine.early m false && (s.dev.sign? m).isSome
      let loaded : Nat → Bool := fun m => (s.dev.sign? m).isSome
      let goes : SignLine → Prop := fun x =>
        exec .signSendComplete s = s.after ({ s.dev with signLine := x } : Device).transmit
      (∀ m, early m = true → (∀ j, j < m → early j = false) →
        goes { s.dev.signLine with sending := some m, early := Tab.put s.dev.signLine.early m false }) ∧
      ((∀ m, early m = false) →
        (∀ k m, s.dev.signLine.round = some k → k < m → loaded m = true → (∀ j, k < j → j < m → loaded j = false) →
          goes { s.dev.signLine with sending := some m, round := some m }) ∧
        (∀ m, (∀ k, s.dev.signLine.round = some k → ∀ j, k < j → loaded j = false) → loaded m = true →
          (∀ j, j < m → loaded j = false) → goes { s.dev.signLine with sending := some m, round := some m }) ∧
        ((∀ m, loaded m = false) → goes { s.dev.signLine with sending := none })))

/-- R115, R131, R166: the delay of a rule entry, the answer timer of a call and the step timer of a lamp test; an expiry
that is not due changes nothing (log 2). An entry that reads global flags alone is ON after its delay. -/
def Obligations.TableTimers : Prop :=
  ∀ s : State, s.dev.up = true →
    (∀ e r tm, s.dev.rule? e = some r → r.outcome = .delaying tm →
      (s.dev.live e = false ∨ tm.due s.dev.clock = false → exec (.ruleDelayExpiry e) s = .next s) ∧
      (s.dev.live e = true → tm.due s.dev.clock = true →
        (∃ t, exec (.ruleDelayExpiry e) s = .next t ∧ t.pending = s.pending ∧ t.dev.base = s.dev.base ∧
          (∀ a b, r.a = .global a → r.b = .global b → t.dev.rule? e = some { r with outcome := .on })) ∧
        (s.dev.delayEnds e).rule? e = some { r with outcome := .on } ∧
        (∀ j, j ≠ e → (s.dev.delayEnds e).rule? j = s.dev.rule? j))) ∧
    (CallLaw s.dev → ∀ c ∈ s.dev.board.calls,
      (∀ start, c.state = .waiting start →
        let limit := if c.priority = .urgent then 15 else 60
        (secondsSince s.dev.clock start < limit → exec (.answerTimerExpiry c.number) s = .next s) ∧
        (limit ≤ secondsSince s.dev.clock start →
          ∃ t, exec (.answerTimerExpiry c.number) s = .next t ∧ t.pending = s.pending ∧ t.dev.base = s.dev.base ∧
            ∃ c' ∈ t.dev.board.calls, c'.number = c.number ∧ c'.state = .escalated)) ∧
      ((∀ start, c.state ≠ .waiting start) → exec (.answerTimerExpiry c.number) s = .next s)) ∧
    (∀ g counter tm, g < 8 → (s.dev.group g).state = .test counter tm →
      (tm.due s.dev.clock = false → exec (.stepTimerExpiry g) s = .next s) ∧
      (tm.due s.dev.clock = true → ∃ t, exec (.stepTimerExpiry g) s = .next t ∧ t.pending = s.pending ∧
        t.dev.link.base = s.dev.link.base ∧
        t.dev = { s.dev with
          link := t.dev.link, signs := t.dev.signs, signLine := t.dev.signLine
          groups := Tab.put s.dev.groups g { s.dev.group g with
            state := if counter + 1 < (s.dev.group g).testLength then .test (counter + 1) ⟨s.dev.clock, 2⟩ else .stopped } } ∧
        ∀ n, t.dev.sign? n = (s.dev.sign? n).map fun r => { r with shown := t.dev.shownFor r }))

/-- R150, R151: the completion of a pass discards a stale working plan and leaves the blank marks; it publishes any other with
its number and stamp and clears every mark, which then stands clear unless the rules that react block anew; the NO_ROUTE
flags follow the plan. A completion without a pass under way changes nothing (the model's choice, log 2). -/
def Obligations.RoutePass : Prop :=
  ∀ s : State, s.dev.up = true →
    (s.dev.route.engine.snapshot? = none → exec .routePassCompletion s = .next s) ∧
    (∀ sn, s.dev.route.engine = .computing (some sn) →
      (s.dev.route.stale = true → s.dev.passEnds.signs = s.dev.signs ∧
        ∃ t, exec .routePassCompletion s = .next t ∧ t.pending = s.pending ∧
          t.dev.base = { s.dev with route := { s.dev.route with discards := (s.dev.route.discards + 1) % 65536 } }.base ∧
          t.dev.route.engine ≠ .idle) ∧
      (s.dev.route.stale = false →
        let number := (s.dev.route.planNumber + 1) % 65536
        let plan : Plan := { work := sn.pass s.dev.passages, number := number, stamp := s.dev.clock }
        (∀ n r, s.dev.passEnds.sign? n = some r → r.blank = #v[false, false, false, false]) ∧
        ∃ t, exec .routePassCompletion s = .next t ∧ t.pending = s.pending ∧
          t.dev.base = { s.dev with route := { s.dev.route with planNumber := number, plan := some plan } }.base ∧
          (s.dev.route.rerun = true → t.dev.route.engine ≠ .idle) ∧
          (LifeLaw s.dev → IntrusionLaw s.dev → (∀ e, t.dev.rule? e = s.dev.rule? e) →
            ∀ n r, t.dev.sign? n = some r → r.blank = #v[false, false, false, false]) ∧
          (∀ z r, t.dev.zone? z = some r →
            (r.noRoute = true ↔ ∃ e, Tab.get? plan.work.entries z = some e ∧ e.distance = 4095))))

/-- R142, R144, R148, R149, R152: what triggers the route engine, what it makes of a trigger in each of its states, which
arrows a block blanks, and the snapshot, taken of the state as the event that starts the pass leaves it, where every step
begins in a state that is quiet in COMMISSIONING. -/
def Obligations.TriggersTaken : Prop :=
  (∀ (r : RouteEngine) (blocking : Bool),
    (r.engine = .idle → r.trigger blocking = { r with engine := .computing none, rerun := false, stale := false }) ∧
    (r.engine = .computing none → r.trigger blocking = r) ∧
    (∀ s, r.engine = .computing (some s) →
      r.trigger blocking = { r with rerun := true, stale := if blocking then true else r.stale })) ∧
  (∀ (d : Device) (b : Option Block),
    (d.isRunning = false → d.trigger b = d) ∧
    (d.isRunning = true → b = none → d.trigger b = { d with route := d.route.trigger false }) ∧
    (∀ x, d.isRunning = true → b = some x →
      d.trigger b = { d with route := d.route.trigger true, signs := (d.trigger b).signs } ∧
      ∀ n, (d.sign? n = none → (d.trigger b).sign? n = none) ∧
        ∀ r, d.sign? n = some r → ∃ r', (d.trigger b).sign? n = some r' ∧ r' = { r with blank := r'.blank } ∧
          ∀ k, k < 4 → (Tab.getD r'.blank k false = true ↔ Tab.getD r.blank k false = true ∨
            ∃ p q, Tab.get? r.bindings k = some p ∧ d.passage? p = some q ∧
              (∀ z, x = .zone z → (q.a = r.zone ∧ q.b = z) ∨ (q.b = r.zone ∧ q.a = z)) ∧
              (∀ m, x = .door m → q.door = some m ∧ (q.a = r.zone ∨ q.b = r.zone))))) ∧
  (∀ (d : Device) (z : Nat) (f : Fire) (r : Zone), d.zone? z = some r →
    let t := d.changeFire z f
    let same : Prop := r.fire.isAlarm = f.isAlarm ∧ r.fire.isVerify = f.isVerify ∧ (r.fire = .pre ↔ f = .pre)
    (same → t.route = d.route ∧ t.signs = d.signs) ∧
    (¬same → f.isAlarm = true → t.route = (d.trigger (some (.zone z))).route ∧ t.signs = (d.trigger (some (.zone z))).signs) ∧
    (¬same → f.isAlarm = false → t.route = (d.trigger none).route ∧ t.signs = d.signs)) ∧
  (∀ (d : Device) (z : Nat) (x : Asked) (r : Zone), d.zone? z = some r →
    let t := d.actOn (.avoid z) x
    (r.avoid = (x != .nothing) → t = d) ∧
    (r.avoid = false → x ≠ .nothing →
      t.route = (d.trigger (some (.zone z))).route ∧ t.signs = (d.trigger (some (.zone z))).signs) ∧
    (r.avoid = true → x = .nothing → t.route = (d.trigger none).route ∧ t.signs = d.signs)) ∧
  (∀ d : Device,
    (∀ z, d.snapshot.zone? z = (d.zone? z).map fun r => {
      exit := r.kind == .exit, blocked := r.fire.isAlarm || r.avoid
      penalty := if r.fire == .pre || r.fire.isVerify then 64 else 0 }) ∧
    (∀ n r, d.door? n = some r →
      (Tab.getD d.snapshot.doorUsable n false = true ↔ r.kind = .fireLeaf ∨ r.drive = .unlock))) ∧
  (∀ s t : State, QuietLaw s.dev → step s = .next t → t.dev.route.engine ≠ s.dev.route.engine →
    t.dev.route.engine = .idle ∨ t.dev.route.engine = .computing (some t.dev.snapshot))

/-- R4, R5, R6, R7, R8, R9, R10, R13, R14, R37, R38: what the end of a loop exchange leaves in the point's record and in the
loop's confirm queue, and which exchange comes next: after a sweep exchange the confirm poll of the queue's head, else the
next configured address of the sweep, with its wrap, or none. -/
def Obligations.LoopExchanges : Prop :=
  ∀ (s : State) (l : Nat) (x : Exchange), s.dev.up = true → l < 4 → (s.dev.loop l).exchange = some x →
    let p := 64 * l + x.addr
    let r := s.dev.point p
    let health : Health → Health := fun new => if r.health = .drift then .drift else new
    let noAnswer := exec (.loopNoAnswer l) s
    let here := s.dev.loop l
    let configured : Nat → Prop := fun a => a < 64 ∧ (s.dev.point (64 * l + a)).kind ≠ .absent
    let above : Nat → Prop := fun a => ∀ k, here.sweep = some k → k < a
    let sweeps : List Nat → Loop → Prop := fun q y =>
      (∀ a, configured a → above a → (∀ b, b < a → above b → ¬configured b) →
        y = { sweep := some a, exchange := some (.sweep a), confirmQueue := q }) ∧
      (∀ a, (∀ b, configured b → ¬above b) → configured a → (∀ b, b < a → ¬configured b) →
        y = { sweep := some a, exchange := some (.sweep a), confirmQueue := q }) ∧
      ((∀ a, ¬configured a) → y = { sweep := here.sweep, exchange := none, confirmQueue := q })
    let goesOn : State → List Nat → Prop := fun t q =>
      (∀ m, m ≠ l → t.dev.loop m = s.dev.loop m) ∧
      match x, q with
      | .sweep _, a :: rest => t.dev.loop l = { sweep := here.sweep, exchange := some (.confirm a), confirmQueue := rest }
      | _, _ => sweeps q (t.dev.loop l)
    let joined : Bool → List Nat := fun judged =>
      if judged = true ∧ x.addr ∉ here.confirmQueue ∧ here.confirmQueue.length < 4 then here.confirmQueue ++ [x.addr]
      else here.confirmQueue
    (r.kind = .absent → ∀ code reading tamper, ∃ t, exec (.loopAnswer l code reading tamper) s = .next t ∧ noAnswer = .next t ∧
      t.pending = s.pending ∧ t.dev.base = { s.dev.base with loops := t.dev.loops } ∧ goesOn t here.confirmQueue) ∧
    (r.kind ≠ .absent →
      (∀ q, q ≠ p → ∀ t, noAnswer = .next t → t.dev.point q = s.dev.point q) ∧
      (∃ t, noAnswer = .next t ∧ t.pending = s.pending ∧
        t.dev.point p = { r with
          misses := min 3 (r.misses + 1), health := if 2 ≤ r.misses then health .noAnswer else r.health } ∧
        t.dev.base = { s.dev.base with points := t.dev.points, loops := t.dev.loops, zones := t.dev.base.zones } ∧
        goesOn t here.confirmQueue) ∧
      ∀ (code : Option PointKind) (reading : Byte) (tamper : Bool),
        let heard := { r with misses := 0, health := health .ok, held := reading.toNat }
        ∃ t, exec (.loopAnswer l code reading tamper) s = .next t ∧ t.pending = s.pending ∧
          (∀ q, q ≠ p → t.dev.point q = s.dev.point q) ∧
          t.dev.base = { s.dev.base with
            points := t.dev.points, loops := t.dev.loops, zones := t.dev.base.zones
            alarmHold := t.dev.alarmHold, board := t.dev.base.board } ∧
          (code ≠ some r.kind → t.dev.point p = { r with misses := 0, health := health .wrongKind } ∧
            goesOn t here.confirmQueue) ∧
          (code = some r.kind → s.dev.isRunning = false ∨ r.enabled = false → t.dev.point p = heard ∧
            goesOn t here.confirmQueue) ∧
          (code = some r.kind → s.dev.isRunning = true → r.enabled = true →
            (r.kind ≠ .smoke → r.kind ≠ .heat → t.dev.point p = { heard with
              condition := if reading ≠ 0 ∨ (tamper = true ∧ (r.kind = .contact ∨ r.kind = .case))
                then .active else .normal } ∧ goesOn t here.confirmQueue) ∧
            (∀ c, r.kind = .smoke → s.dev.class? r.cls = some c →
              let e := evaluateSmoke c s.dev.regime { r with misses := 0, health := health .ok, held := reading.toNat } reading.toNat
              t.dev.point p = { heard with
                arith := some e.arith, clearMark := e.clear, condition := e.condition
                health := if e.drifts then .drift else health .ok } ∧
              goesOn t (joined ((r.arith.getD {}).learnt && 0 < e.arith.confirm && e.arith.confirm < c.k))) ∧
            (∀ c, r.kind = .heat → s.dev.class? r.cls = some c →
              let e := evaluateHeat c { r with misses := 0, health := health .ok, held := reading.toNat } reading.toNat
              t.dev.point p = { heard with arith := some e.arith, clearMark := e.clear, condition := e.condition } ∧
              goesOn t (joined (0 < e.arith.confirm && e.arith.confirm < c.k)))))

/-! ### Judgements of the blocks -/

/-- R111, R114: the sixteen combine functions by their codes (bit 0 of a code stands for A false, B false; bit 1 for A false, B
true; bit 2 for A true, B false; bit 3 for A true, B true), and the outcome of a judged entry for every truth, delay, latch
and outcome. -/
def Obligations.OutcomeTable : Prop :=
  (∀ (code : Nat) (f : Combine), Combine.ofCode code = some f →
    code < 16 ∧ ∀ a b : Bool, f.eval a b = code.testBit (match a, b with
      | false, false => 0
      | false, true => 1
      | true, false => 2
      | true, true => 3)) ∧
  (∀ code, code < 16 → Combine.ofCode code ≠ none) ∧
  ∀ (r : Rule) (now : Seconds),
    (r.delay = 0 → (∀ tm, r.outcome ≠ .delaying tm) → r.judge true now = .on) ∧
    (0 < r.delay → r.outcome = .off → r.judge true now = .delaying ⟨now, r.delay⟩) ∧
    (0 < r.delay → ∀ tm, r.outcome = .delaying tm → r.judge true now = .delaying tm) ∧
    (0 < r.delay → r.outcome = .on → r.judge true now = .on) ∧
    (∀ truth, r.outcome = .on → r.latch = true → r.judge truth now = .on) ∧
    (r.latch = false ∨ r.outcome ≠ .on → r.judge false now = .off)

/-- R30: the compensated value of a smoke reading, from the baseline before the reading's own drift update, and its level
by the thresholds of the regime; and R26, R27: what the level does to condition, confirm count and clear mark. -/
def Obligations.SmokeReading : Prop :=
  ∀ (c : ClassRec) (regime : Regime) (p : Point) (a : Arith) (r : Nat), p.arith = some a → a.learnt = true → r ≤ 255 →
    let v := r - a.baseline / 256
    let tp := match regime with
      | .day => c.tpDay
      | .night => c.tpNight
    let ta := match regime with
      | .day => c.taDay
      | .night => c.taNight
    let e := evaluateSmoke c regime p r
    v ≤ 255 ∧ (r * 256 ≤ a.baseline → 1 ≤ tp → tp < ta → v < tp) ∧
    (p.condition ≠ .active →
      (ta ≤ v → e.arith.confirm = min (a.confirm + 1) c.k ∧
        e.condition = (if min (a.confirm + 1) c.k = c.k then .active else .pre) ∧ e.clear = false) ∧
      (tp ≤ v → v < ta → e.arith.confirm = 0 ∧ e.condition = .pre ∧ e.clear = false) ∧
      (v < tp → tp < ta → e.arith.confirm = 0 ∧ e.condition = .normal ∧ e.clear = false)) ∧
    (p.condition = .active →
      (ta ≤ v → e.arith.confirm = min (a.confirm + 1) c.k ∧ e.condition = .active ∧ e.clear = false) ∧
      (tp ≤ v → v < ta → e.arith.confirm = 0 ∧ e.condition = .active ∧ e.clear = false) ∧
      (v < tp → tp < ta → e.arith.confirm = 0 ∧ e.clear = !p.clearMark ∧
        e.condition = if p.clearMark then .normal else .active))

/-- R29, R31, R32, R33: the baseline is learnt once and then moves, at every 64th evaluated reading that leaves the point
NORMAL in clean air and not in DRIFT, by one 64th of the gap truncated toward zero, as far as the drift limit. -/
def Obligations.SmokeDrift : Prop :=
  ∀ (c : ClassRec) (regime : Regime) (p : Point) (a : Arith) (r : Nat), p.arith = some a → r ≤ 255 →
    let e := evaluateSmoke c regime p r
    let gap : Int := (256 * r : Int) - a.baseline
    let moved : Int := a.baseline + (if 0 ≤ gap then gap / 64 else -(-gap / 64))
    let clean := (a.readings + 1) % 64 = 0 ∧ e.condition = .normal ∧ r - a.baseline / 256 ≤ c.w ∧ p.health ≠ .drift
    (a.learnt = false → e.arith = { a with baseline := min (256 * r) (256 * c.l), learnt := true, readings := 0 } ∧
      e.condition = p.condition ∧ e.clear = p.clearMark ∧ (e.drifts = true ↔ c.l < r)) ∧
    (a.learnt = true → e.arith.learnt = true ∧ e.arith.readings = (a.readings + 1) % 64 ∧
      (¬clean → e.arith.baseline = a.baseline ∧ e.drifts = false) ∧
      (clean → 0 ≤ moved ∧ ((e.arith.baseline : Int) = min moved (256 * c.l)) ∧ (e.drifts = true ↔ (256 * c.l : Int) < moved)))

/-- R35, R36: the heat ring and the level of a heat reading, which R26 and R27 then judge. -/
def Obligations.HeatReading : Prop :=
  ∀ (c : ClassRec) (p : Point) (a : Arith) (h : Nat), p.arith = some a →
    let e := evaluateHeat c p h
    let rises : Prop := ∃ oldest rest, a.ring = oldest :: rest ∧ 8 ≤ a.ring.length ∧ oldest + c.hr ≤ h
    let n := min (a.confirm + 1) c.k
    (a.ring.length < 8 → e.arith.ring = a.ring ++ [h]) ∧
    (∀ oldest rest, a.ring = oldest :: rest → a.ring.length = 8 → e.arith.ring = rest ++ [h]) ∧
    (c.hf ≤ h ∨ rises → e.arith.confirm = n ∧ e.clear = false ∧
      e.condition = if p.condition = .active ∨ n = c.k then .active else .pre) ∧
    (h < c.hf → ¬rises → c.hf ≤ h + 10 → e.arith.confirm = 0 ∧ e.clear = false ∧
      e.condition = if p.condition = .active then .active else .pre) ∧
    (h < c.hf → ¬rises → h + 10 < c.hf → e.arith.confirm = 0 ∧
      (p.condition ≠ .active → e.condition = .normal ∧ e.clear = false) ∧
      (p.condition = .active → e.clear = !p.clearMark ∧ e.condition = if p.clearMark then .normal else .active))

/-- R43 to R48, R59: what a change of condition of a fire point does to its zone. -/
def Obligations.FirePointJudged : Prop :=
  ∀ (d : Device) (z p : Nat) (kind : PointKind) (old new : Condition) (r : Zone), d.zone? z = some r → old ≠ new →
    let t := d.firePointChanged z p kind old new
    let active := r.activeCount - (if old = .active then 1 else 0) + (if new = .active then 1 else 0)
    let pre := r.preCount - (if old = .pre then 1 else 0) + (if new = .pre then 1 else 0)
    let becomes : Fire → Prop := fun f =>
      (∃ r', t.zone? z = some r' ∧ r'.base = { r.base with fire := f, activeCount := active, preCount := pre }) ∧
      (∀ x q, x ≠ z → d.zone? x = some q → ∃ q', t.zone? x = some q' ∧ q'.base = q.base) ∧
      (r.fire.isAlarm = false → f.isAlarm = true → ∀ c, (t.sounder c).state ≠ .silenced)
    (r.fire.isAlarm = true → becomes r.fire) ∧
    (∀ ph tm o, r.fire = .verify ph tm o →
      (new ≠ .active ∨ (kind ≠ .breakglass ∧ p = o) → becomes r.fire) ∧
      (new = .active → kind = .breakglass →
        becomes (.alarm .breakglass (some p) d.clock (some o) ph.ackStation)) ∧
      (new = .active → kind ≠ .breakglass → p ≠ o →
        becomes (.alarm .secondPoint (some p) d.clock (some o) ph.ackStation))) ∧
    (r.fire.hot = false →
      (new = .active → kind = .breakglass → becomes (.alarm .breakglass (some p) d.clock none none)) ∧
      (new = .active → kind ≠ .breakglass → r.verify = true → d.regime = .day → d.isAutonomous = false →
        becomes (.verify .ackWait ⟨d.clock, r.ackTime⟩ p)) ∧
      (new = .active → kind ≠ .breakglass → r.verify = false ∨ d.regime = .night ∨ d.isAutonomous = true →
        becomes (.alarm .point (some p) d.clock none none)) ∧
      (new ≠ .active → active = 0 → becomes (if 0 < pre then .pre else .quiet)) ∧
      (new ≠ .active → 0 < active → becomes r.fire))

/-- R65, R66, R67, R71, R72, R73, R74, R75, R77: what a change of condition of a security point, a door opened and a door
forced event do to the security machine of their zone, and which of the two door events a status hands on. A zone that begins
setting always queues its report; that it does so also where ARM_ZONE takes it from UNSET_FAULT to UNSET_FAULT is the model's
reading (log 37). -/
def Obligations.SecurityJudged : Prop :=
  (∀ (d : Device) (z p : Nat) (kind : PointKind) (entryRoute : Bool) (old new : Condition) (r : Zone),
    d.zone? z = some r → old ≠ new → isSecurityKind kind = true →
    let t := d.securityPointChanged z p kind entryRoute old new
    let counted : PointKind → Nat → Nat := fun k n => if kind = k then
      n - (if old = .active then 1 else 0) + (if new = .active then 1 else 0) else n
    let becomes : Security → Prop := fun x =>
      t.zones = Tab.put d.zones z (some { r with
        security := x, openContacts := counted .contact r.openContacts, openCases := counted .case r.openCases }) ∧
      t = { d with zones := t.zones, link := t.link } ∧ t.link.base = d.link.base
    let intruder : IntruderCause → Security := fun cause => .intruder cause (.point p) d.clock
    (new ≠ .active → becomes r.security) ∧
    (new = .active → kind = .case →
      (r.policy = .never ∨ r.security.isIntruder = true → becomes r.security) ∧
      (r.policy ≠ .never → r.security.isIntruder = false → becomes (intruder .case))) ∧
    (new = .active → kind ≠ .case → r.fire.hot = true ∨ r.security ≠ .armed → becomes r.security) ∧
    (new = .active → kind ≠ .case → r.fire.hot = true → r.security ≠ .off → r.security ≠ .unsetFault →
      t.link = (d.report .security z (.securityMasked (.point p))).link) ∧
    (new = .active → r.fire.hot = false → r.security = .armed →
      (kind = .motion → becomes (intruder .motion)) ∧
      (kind = .contact → entryRoute = false ∨ r.entryDelay = 0 → becomes (intruder .contact)) ∧
      (kind = .contact → entryRoute = true → 0 < r.entryDelay →
        becomes (.entry ⟨d.clock, r.entryDelay⟩ (.point p))))) ∧
  (∀ (d : Device) (z n : Nat) (entryRoute : Bool) (r : Zone), d.isRunning = true → d.zone? z = some r →
    let opened := d.doorOpenedEvent z n entryRoute
    let forced := d.doorForcedEvent z n
    let becomes : Security → Device := fun x => (d.putZone z { r with security := x }).report .security z (.zoneSecurity x.view)
    (r.fire.hot = true →
      (r.security = .off ∨ r.security = .unsetFault → opened = d ∧ forced = d) ∧
      (r.security ≠ .off → r.security ≠ .unsetFault →
        opened = d.report .security z (.securityMasked (.door n)) ∧ forced = d.report .security z (.securityMasked (.door n)))) ∧
    (r.fire.hot = false →
      (r.security = .armed → entryRoute = true → 0 < r.entryDelay →
        opened = becomes (.entry ⟨d.clock, r.entryDelay⟩ (.door n))) ∧
      (r.security = .armed → entryRoute = true → r.entryDelay = 0 →
        opened = becomes (.intruder .doorOpen (.door n) d.clock)) ∧
      (r.security ≠ .armed ∨ entryRoute = false → opened = d) ∧
      (r.security = .armed → forced = becomes (.intruder .forcedDoor (.door n) d.clock)) ∧
      (∀ tm src, r.security = .entry tm src → forced = becomes (.intruder .forcedDoor (.door n) d.clock)) ∧
      (r.security ≠ .armed → (∀ tm src, r.security ≠ .entry tm src) → forced = d))) ∧
  (∀ (d : Device) (z : Nat) (r : Zone), d.zone? z = some r →
    let x : Security := if r.exitDelay = 0 then (if 0 < r.openContacts then .unsetFault else .armed)
      else .setting ⟨d.clock, r.exitDelay⟩
    d.beginSetting z = (d.putZone z { r with security := x }).report .security z (.zoneSecurity x.view)) ∧
  (∀ (d : Device) (n : Nat) (r : Door) (leaf : Leaf) (lock : LockPos) (rex : Bool), d.door? n = some r →
    let t := d.takeStatus n leaf lock rex
    (d.isRunning = false ∨ d.zone? r.zone = none ∨ r.health = .silent ∨ r.condition = none ∨ leaf = .closed ∨
      r.leaf = some leaf → t.zones = d.zones) ∧
    (r.health = .ok → r.condition ≠ none → r.leaf ≠ some .opened → leaf = .opened →
      let unlocked : Prop := r.kind = .fireLeaf ∨ r.drive = .unlock ∨ r.shunt.isSome = true ∨ rex = true
      (unlocked → t.zones = (d.doorOpenedEvent r.zone n r.entryRoute).zones) ∧
      (¬unlocked → t.zones = (d.doorForcedEvent r.zone n).zones)))

/-- R125, R126, R127, R128, R129, R130: a press of a call point. -/
def Obligations.PressTaken : Prop :=
  ∀ (d : Device) (p : Nat), CallLaw d →
    let t := d.press p
    let becomes : CallBoard → Prop := fun b => t = { d with board := b, link := t.link } ∧ t.link.base = d.link.base
    let kind : CallKind := if (d.point p).kind = .refuge then .refuge else .help
    (∀ c ∈ d.board.calls, c.point = p → c.repeats < 15 →
      becomes (d.board.replace { c with repeats := c.repeats + 1 })) ∧
    (∀ c ∈ d.board.calls, c.point = p → 15 ≤ c.repeats → t = d) ∧
    (p ∈ d.board.waitingPoints → t = d) ∧
    ((∀ c ∈ d.board.calls, c.point ≠ p) → p ∉ d.board.waitingPoints →
      (d.board.calls.length = 16 →
        becomes { d.board with waitingPoints := d.board.waitingPoints ++ [p] }) ∧
      (d.board.calls.length < 16 → ∃ n, NextFree (d.board.calls.map (·.number)) d.board.callCounter n ∧
        becomes { d.board with
          calls := d.board.calls ++ [{
            number := n, point := p, zone := (d.point p).zone, kind := kind
            arrival := d.board.arrivalCounter, state := .waiting d.clock, repeats := 0
            priority := d.rank kind (d.point p).zone }]
          callCounter := (n + 1) % 256, arrivalCounter := (d.board.arrivalCounter + 1) % 65536 }))

/-- R161, R162, R163, R166: what a loaded sign shows, element by element: in a test the counter's pattern; the plan's arrow and
cross in RUN while a plan is published; else the safe default. The legend stands beside both as its source says. -/
def Obligations.SignShown : Prop :=
  ∀ (d : Device) (r : Sign),
    let element : Nat → Elem := fun k => Tab.getD (d.shownFor r) k .dark
    let alarmed : Bool := d.anyAlarm || d.alarmHold.isSome
    let source : Bool := match r.legend with
      | .dark => false
      | .lit => true
      | .mainsFail => d.mainsFail
      | .alarm => alarmed
    let legend : Elem := if source ≠ r.invert then .steady else .dark
    let safe : Prop := (∀ k, k < 5 → element k = .dark) ∧ element 5 = legend
    (d.isRunning = false → safe) ∧
    ((d.group r.group).state = .stopped → safe) ∧
    ((d.group r.group).state = .run → d.route.plan = none → safe) ∧
    (∀ counter tm, d.isRunning = true → (d.group r.group).state = .test counter tm →
      ∀ k, k < 6 → element k = if counter.testBit (5 - k) then .steady else .dark) ∧
    (∀ p, d.isRunning = true → (d.group r.group).state = .run → d.route.plan = some p →
      (Tab.get? p.work.entries r.zone = none ∨ (∀ z, d.zone? r.zone = some z → z.kind = .exit) → safe) ∧
      (∀ z e, d.zone? r.zone = some z → z.kind ≠ .exit → Tab.get? p.work.entries r.zone = some e →
        (∀ k, k < 4 → element k =
          if (∃ x, e.next = some x ∧ Tab.get? r.bindings k = some x.passage) ∧ Tab.getD r.blank k false = false then
            (if alarmed then .flashing else .steady)
          else .dark) ∧
        element 4 = (if e.distance = 4095 then .steady else .dark) ∧ element 5 = legend))

/-! ### Laws of every state -/

/-- R84, with R83: every step keeps the law of the LIFE demand and the commanded drive, and with it the two laws of R84. -/
def Obligations.LifeKept : Prop :=
  ∀ s t : State, LifeLaw s.dev → step s = .next t →
    LifeLaw t.dev ∧
    ∀ n r i p, t.dev.isRunning = true → t.dev.door? n = some r → t.dev.passage? i = some p → p.door = some n →
      (r.kind = .egress → (t.dev.fire p.a).isAlarm = true ∨ (t.dev.fire p.b).isAlarm = true → r.drive = .unlock) ∧
      (r.kind = .fireLeaf → (t.dev.fire p.a).hot = true ∨ (t.dev.fire p.b).hot = true → r.drive = .close)

/-- R88, R130, R135: every step keeps the law of the INTRUSION demand, the law of the two call flags of a zone, and the law of
the priorities of the calls. -/
def Obligations.ReadersKept : Prop :=
  ∀ s t : State, step s = .next t →
    (IntrusionLaw s.dev → IntrusionLaw t.dev) ∧ (CallFlagLaw s.dev → CallFlagLaw t.dev) ∧
    (RankLaw s.dev → RankLaw t.dev)

/-- R57, R85, R117, R118, R119: every step keeps the law that each door, circuit, relay and zone receives what its ON set
asks. -/
def Obligations.TargetsKept : Prop := ∀ s t : State, TargetLaw s.dev → step s = .next t → TargetLaw t.dev

/-- R113, R114, R115, R116, R120, R124: every step keeps the law that the outcome of a live entry stands with its present
truth. An entry that becomes live, at a change of regime or a COMMIT, is judged from OFF on the flags as the event leaves
them; a live one is judged when an operand changes its value, and else stays as it was, but for CLEAR_LATCHES, the expiry
of a delay and the warm restart; the first two change no operand where the call flags and priorities are those that
ReadersKept keeps (ClearLatches and TableTimers say what they do); a COMMIT is in flight in COMMISSIONING alone, as
TablesKept says. -/
def Obligations.RulesKept : Prop :=
  (∀ s t : State, SettledLaw s.dev → step s = .next t → SettledLaw t.dev) ∧
  ∀ (i : Instr) (s t : State) (e : Nat) (r : Rule), CommitLaw s.dev → exec i s = .next t → s.dev.rule? e = some r →
    r.readable → t.dev.live e = true → ∃ r', t.dev.rule? e = some r' ∧ r' = { r with outcome := r'.outcome } ∧
      (s.dev.live e = false → r'.outcome = r.fresh (t.dev.truth r) t.dev.clock) ∧
      (s.dev.live e = true → s.dev.link.restartReplySent = false ∨ (i ≠ .warmRestart ∧ i ≠ .frameSent) →
        let sets : Prop := i = .ruleDelayExpiry e ∨ ∃ h body, i = .clearLatches h body
        (¬sets → s.dev.operand r.a ≠ t.dev.operand r.a ∨ s.dev.operand r.b ≠ t.dev.operand r.b →
          r'.outcome = r.judge (t.dev.truth r) t.dev.clock) ∧
        (¬sets → s.dev.operand r.a = t.dev.operand r.a → s.dev.operand r.b = t.dev.operand r.b →
          r'.outcome = r.outcome) ∧
        (sets → CallFlagLaw s.dev → RankLaw s.dev →
          s.dev.operand r.a = t.dev.operand r.a ∧ s.dev.operand r.b = t.dev.operand r.b))

/-- R126, R127, R129, R136, R138: every step keeps the law of the call queue and the pending list. -/
def Obligations.CallsKept : Prop := ∀ s t : State, CallLaw s.dev → step s = .next t → CallLaw t.dev

/-- R19, R40, R43, R65: from a state that is quiet in COMMISSIONING, every step keeps the law that the five counts of a zone
are the numbers of its points. -/
def Obligations.CountsKept : Prop :=
  ∀ s t : State, QuietLaw s.dev → CountLaw s.dev → step s = .next t → CountLaw t.dev

/-- R4, R5, R13, R15, R33: every step keeps the law of the baselines, that of the confirm queues, and that a loop with a
configured point has an exchange in flight while the FG640 operates. -/
def Obligations.PointsKept : Prop :=
  ∀ s t : State, step s = .next t →
    (BaselineLaw s.dev → BaselineLaw t.dev) ∧ (ConfirmLaw s.dev → ConfirmLaw t.dev) ∧ (LoopLaw s.dev → LoopLaw t.dev)

/-- R150, R152, R160, R162: from a state that is quiet in COMMISSIONING, every step keeps the law of the signs, and with it
the law of R162: outside TEST no sign shows a lit arrow that leads into a blocked zone or through a door that is not
usable. -/
def Obligations.SignsKept : Prop :=
  ∀ s t : State, QuietLaw s.dev → SignLaw s.dev → step s = .next t →
    SignLaw t.dev ∧
    ∀ n r k, t.dev.sign? n = some r → (t.dev.group r.group).inTest = false → k < 4 → Tab.getD r.shown k .dark ≠ .dark →
      ∃ p, Tab.get? r.bindings k = some p ∧ ¬t.dev.leadsAstray r.zone p

/-- R113, R167, R174, R179, R180: every step keeps an entry that is not live OFF; no group in TEST while a zone is in VERIFY
or ALARM; the bound of the report queue and its one report for each kind and object; and a COMMIT in flight in COMMISSIONING
alone. -/
def Obligations.TablesKept : Prop :=
  ∀ s t : State, step s = .next t →
    (RuleLaw s.dev → RuleLaw t.dev) ∧ (TestLaw s.dev → TestLaw t.dev) ∧ (ReportLaw s.dev → ReportLaw t.dev) ∧
    (CommitLaw s.dev → CommitLaw t.dev)

/-- R21, R61, R78, R123, R154: every step keeps COMMISSIONING quiet. -/
def Obligations.QuietKept : Prop := ∀ s t : State, QuietLaw s.dev → step s = .next t → QuietLaw t.dev

/-- R145, R146, R147, R151: every pass, on every snapshot and passage table, gives a plan with the law of R151 after 1 to 48
sweeps, with no entry for an unloaded zone; and every step keeps that the published plan has that law for the zones as they
are loaded. -/
def Obligations.PlanSound : Prop :=
  (∀ (s : Snapshot) (passages : Vector (Option Passage) 96),
    PlanLaw s passages (s.pass passages) ∧ 1 ≤ (s.pass passages).sweeps ∧ (s.pass passages).sweeps ≤ 48 ∧
    ∀ z, s.zone? z = none → Tab.get? (s.pass passages).entries z = none) ∧
  (∀ s t : State, PublishedLaw s.dev → step s = .next t → PublishedLaw t.dev)

/-- R19, R104, R177, R182, R185, R186, R190, R192: what the first power-on leaves, and that every law holds there. The
registers the spec gives no value (the mains input, log 8; the free-value counter, log 3) are not named; that the
CALLS_CLEARED report of R138 is no longer queued, being on the line, is the model's reading (log 9). -/
def Obligations.ResetValues : Prop :=
  let d := State.reset.dev
  State.reset.pending = [] ∧ d.clock = 0 ∧ d.link.op = .commissioning ∧ d.regime = .night ∧
  d.sup.mode = .linked ⟨0, 30⟩ ∧ d.sup.interval = 30 ∧ d.sup.locked = false ∧ d.sup.lastPulse = .none ∧
  d.sup.causes = { powerOn := true } ∧
  (∀ p, d.point p = {}) ∧ (∀ k, d.class? k = none) ∧ (∀ z, d.zone? z = none) ∧ (∀ n, d.door? n = none) ∧
  (∀ e, d.rule? e = none) ∧ (∀ i, d.passage? i = none) ∧ (∀ n, d.sign? n = none) ∧
  (∀ g, d.group g = { testLength := 64, state := .run }) ∧ (∀ c, d.sounder c = {}) ∧
  d.daySlots = 0 ∧ d.nightSlots = 0 ∧ d.board = {} ∧ d.route = {} ∧ d.alarmHold = none ∧
  d.link.reports = [] ∧ d.link.replies = [] ∧ d.link.gapMark = false ∧ d.link.masks = {} ∧ (∀ k, d.slot k = none) ∧
  LifeLaw d ∧ TestLaw d ∧ CallLaw d ∧ ReportLaw d ∧ RuleLaw d ∧ BaselineLaw d ∧ QuietLaw d ∧ ConfirmLaw d ∧
  IntrusionLaw d ∧ CallFlagLaw d ∧ RankLaw d ∧ TargetLaw d ∧ SettledLaw d ∧ CountLaw d ∧ LoopLaw d ∧ OffLaw d ∧ SignLaw d ∧ PublishedLaw d ∧
  CommitLaw d
end

