-- ==== Sys2Proof/Laws/State.lean ====
section
/-! SUPPORT. One lemma for each field of the device under each of its updates, true by definition. -/

namespace Sys2Proof.Machine

@[simp] theorem Device.putPoint_inputs (d : Device) (p : Nat) (r : Point) : (d.putPoint p r).inputs = d.inputs := rfl
@[simp] theorem Device.putPoint_clock (d : Device) (p : Nat) (r : Point) : (d.putPoint p r).clock = d.clock := rfl
@[simp] theorem Device.putPoint_sup (d : Device) (p : Nat) (r : Point) : (d.putPoint p r).sup = d.sup := rfl
@[simp] theorem Device.putPoint_link (d : Device) (p : Nat) (r : Point) : (d.putPoint p r).link = d.link := rfl
@[simp] theorem Device.putPoint_points (d : Device) (p : Nat) (r : Point) : (d.putPoint p r).points = Tab.put d.points p r := rfl
@[simp] theorem Device.putPoint_classes (d : Device) (p : Nat) (r : Point) : (d.putPoint p r).classes = d.classes := rfl
@[simp] theorem Device.putPoint_loops (d : Device) (p : Nat) (r : Point) : (d.putPoint p r).loops = d.loops := rfl
@[simp] theorem Device.putPoint_zones (d : Device) (p : Nat) (r : Point) : (d.putPoint p r).zones = d.zones := rfl
@[simp] theorem Device.putPoint_alarmHold (d : Device) (p : Nat) (r : Point) : (d.putPoint p r).alarmHold = d.alarmHold := rfl
@[simp] theorem Device.putPoint_sounders (d : Device) (p : Nat) (r : Point) : (d.putPoint p r).sounders = d.sounders := rfl
@[simp] theorem Device.putPoint_doors (d : Device) (p : Nat) (r : Point) : (d.putPoint p r).doors = d.doors := rfl
@[simp] theorem Device.putPoint_doorLine (d : Device) (p : Nat) (r : Point) : (d.putPoint p r).doorLine = d.doorLine := rfl
@[simp] theorem Device.putPoint_regime (d : Device) (p : Nat) (r : Point) : (d.putPoint p r).regime = d.regime := rfl
@[simp] theorem Device.putPoint_rules (d : Device) (p : Nat) (r : Point) : (d.putPoint p r).rules = d.rules := rfl
@[simp] theorem Device.putPoint_daySlots (d : Device) (p : Nat) (r : Point) : (d.putPoint p r).daySlots = d.daySlots := rfl
@[simp] theorem Device.putPoint_nightSlots (d : Device) (p : Nat) (r : Point) : (d.putPoint p r).nightSlots = d.nightSlots := rfl
@[simp] theorem Device.putPoint_relays (d : Device) (p : Nat) (r : Point) : (d.putPoint p r).relays = d.relays := rfl
@[simp] theorem Device.putPoint_mainsFail (d : Device) (p : Nat) (r : Point) : (d.putPoint p r).mainsFail = d.mainsFail := rfl
@[simp] theorem Device.putPoint_board (d : Device) (p : Nat) (r : Point) : (d.putPoint p r).board = d.board := rfl
@[simp] theorem Device.putPoint_passages (d : Device) (p : Nat) (r : Point) : (d.putPoint p r).passages = d.passages := rfl
@[simp] theorem Device.putPoint_route (d : Device) (p : Nat) (r : Point) : (d.putPoint p r).route = d.route := rfl
@[simp] theorem Device.putPoint_signs (d : Device) (p : Nat) (r : Point) : (d.putPoint p r).signs = d.signs := rfl
@[simp] theorem Device.putPoint_groups (d : Device) (p : Nat) (r : Point) : (d.putPoint p r).groups = d.groups := rfl
@[simp] theorem Device.putPoint_signLine (d : Device) (p : Nat) (r : Point) : (d.putPoint p r).signLine = d.signLine := rfl
@[simp] theorem Device.putPoint_freeReads (d : Device) (p : Nat) (r : Point) : (d.putPoint p r).freeReads = d.freeReads := rfl

@[simp] theorem Device.putLoop_inputs (d : Device) (l : Nat) (r : Loop) : (d.putLoop l r).inputs = d.inputs := rfl
@[simp] theorem Device.putLoop_clock (d : Device) (l : Nat) (r : Loop) : (d.putLoop l r).clock = d.clock := rfl
@[simp] theorem Device.putLoop_sup (d : Device) (l : Nat) (r : Loop) : (d.putLoop l r).sup = d.sup := rfl
@[simp] theorem Device.putLoop_link (d : Device) (l : Nat) (r : Loop) : (d.putLoop l r).link = d.link := rfl
@[simp] theorem Device.putLoop_points (d : Device) (l : Nat) (r : Loop) : (d.putLoop l r).points = d.points := rfl
@[simp] theorem Device.putLoop_classes (d : Device) (l : Nat) (r : Loop) : (d.putLoop l r).classes = d.classes := rfl
@[simp] theorem Device.putLoop_loops (d : Device) (l : Nat) (r : Loop) : (d.putLoop l r).loops = Tab.put d.loops l r := rfl
@[simp] theorem Device.putLoop_zones (d : Device) (l : Nat) (r : Loop) : (d.putLoop l r).zones = d.zones := rfl
@[simp] theorem Device.putLoop_alarmHold (d : Device) (l : Nat) (r : Loop) : (d.putLoop l r).alarmHold = d.alarmHold := rfl
@[simp] theorem Device.putLoop_sounders (d : Device) (l : Nat) (r : Loop) : (d.putLoop l r).sounders = d.sounders := rfl
@[simp] theorem Device.putLoop_doors (d : Device) (l : Nat) (r : Loop) : (d.putLoop l r).doors = d.doors := rfl
@[simp] theorem Device.putLoop_doorLine (d : Device) (l : Nat) (r : Loop) : (d.putLoop l r).doorLine = d.doorLine := rfl
@[simp] theorem Device.putLoop_regime (d : Device) (l : Nat) (r : Loop) : (d.putLoop l r).regime = d.regime := rfl
@[simp] theorem Device.putLoop_rules (d : Device) (l : Nat) (r : Loop) : (d.putLoop l r).rules = d.rules := rfl
@[simp] theorem Device.putLoop_daySlots (d : Device) (l : Nat) (r : Loop) : (d.putLoop l r).daySlots = d.daySlots := rfl
@[simp] theorem Device.putLoop_nightSlots (d : Device) (l : Nat) (r : Loop) : (d.putLoop l r).nightSlots = d.nightSlots := rfl
@[simp] theorem Device.putLoop_relays (d : Device) (l : Nat) (r : Loop) : (d.putLoop l r).relays = d.relays := rfl
@[simp] theorem Device.putLoop_mainsFail (d : Device) (l : Nat) (r : Loop) : (d.putLoop l r).mainsFail = d.mainsFail := rfl
@[simp] theorem Device.putLoop_board (d : Device) (l : Nat) (r : Loop) : (d.putLoop l r).board = d.board := rfl
@[simp] theorem Device.putLoop_passages (d : Device) (l : Nat) (r : Loop) : (d.putLoop l r).passages = d.passages := rfl
@[simp] theorem Device.putLoop_route (d : Device) (l : Nat) (r : Loop) : (d.putLoop l r).route = d.route := rfl
@[simp] theorem Device.putLoop_signs (d : Device) (l : Nat) (r : Loop) : (d.putLoop l r).signs = d.signs := rfl
@[simp] theorem Device.putLoop_groups (d : Device) (l : Nat) (r : Loop) : (d.putLoop l r).groups = d.groups := rfl
@[simp] theorem Device.putLoop_signLine (d : Device) (l : Nat) (r : Loop) : (d.putLoop l r).signLine = d.signLine := rfl
@[simp] theorem Device.putLoop_freeReads (d : Device) (l : Nat) (r : Loop) : (d.putLoop l r).freeReads = d.freeReads := rfl

@[simp] theorem Device.putZone_inputs (d : Device) (z : Nat) (r : Zone) : (d.putZone z r).inputs = d.inputs := rfl
@[simp] theorem Device.putZone_clock (d : Device) (z : Nat) (r : Zone) : (d.putZone z r).clock = d.clock := rfl
@[simp] theorem Device.putZone_sup (d : Device) (z : Nat) (r : Zone) : (d.putZone z r).sup = d.sup := rfl
@[simp] theorem Device.putZone_link (d : Device) (z : Nat) (r : Zone) : (d.putZone z r).link = d.link := rfl
@[simp] theorem Device.putZone_points (d : Device) (z : Nat) (r : Zone) : (d.putZone z r).points = d.points := rfl
@[simp] theorem Device.putZone_classes (d : Device) (z : Nat) (r : Zone) : (d.putZone z r).classes = d.classes := rfl
@[simp] theorem Device.putZone_loops (d : Device) (z : Nat) (r : Zone) : (d.putZone z r).loops = d.loops := rfl
@[simp] theorem Device.putZone_zones (d : Device) (z : Nat) (r : Zone) : (d.putZone z r).zones = Tab.put d.zones z (some r) := rfl
@[simp] theorem Device.putZone_alarmHold (d : Device) (z : Nat) (r : Zone) : (d.putZone z r).alarmHold = d.alarmHold := rfl
@[simp] theorem Device.putZone_sounders (d : Device) (z : Nat) (r : Zone) : (d.putZone z r).sounders = d.sounders := rfl
@[simp] theorem Device.putZone_doors (d : Device) (z : Nat) (r : Zone) : (d.putZone z r).doors = d.doors := rfl
@[simp] theorem Device.putZone_doorLine (d : Device) (z : Nat) (r : Zone) : (d.putZone z r).doorLine = d.doorLine := rfl
@[simp] theorem Device.putZone_regime (d : Device) (z : Nat) (r : Zone) : (d.putZone z r).regime = d.regime := rfl
@[simp] theorem Device.putZone_rules (d : Device) (z : Nat) (r : Zone) : (d.putZone z r).rules = d.rules := rfl
@[simp] theorem Device.putZone_daySlots (d : Device) (z : Nat) (r : Zone) : (d.putZone z r).daySlots = d.daySlots := rfl
@[simp] theorem Device.putZone_nightSlots (d : Device) (z : Nat) (r : Zone) : (d.putZone z r).nightSlots = d.nightSlots := rfl
@[simp] theorem Device.putZone_relays (d : Device) (z : Nat) (r : Zone) : (d.putZone z r).relays = d.relays := rfl
@[simp] theorem Device.putZone_mainsFail (d : Device) (z : Nat) (r : Zone) : (d.putZone z r).mainsFail = d.mainsFail := rfl
@[simp] theorem Device.putZone_board (d : Device) (z : Nat) (r : Zone) : (d.putZone z r).board = d.board := rfl
@[simp] theorem Device.putZone_passages (d : Device) (z : Nat) (r : Zone) : (d.putZone z r).passages = d.passages := rfl
@[simp] theorem Device.putZone_route (d : Device) (z : Nat) (r : Zone) : (d.putZone z r).route = d.route := rfl
@[simp] theorem Device.putZone_signs (d : Device) (z : Nat) (r : Zone) : (d.putZone z r).signs = d.signs := rfl
@[simp] theorem Device.putZone_groups (d : Device) (z : Nat) (r : Zone) : (d.putZone z r).groups = d.groups := rfl
@[simp] theorem Device.putZone_signLine (d : Device) (z : Nat) (r : Zone) : (d.putZone z r).signLine = d.signLine := rfl
@[simp] theorem Device.putZone_freeReads (d : Device) (z : Nat) (r : Zone) : (d.putZone z r).freeReads = d.freeReads := rfl

@[simp] theorem Device.updZone_inputs (d : Device) (z : Nat) (f : Zone → Zone) : (d.updZone z f).inputs = d.inputs := rfl
@[simp] theorem Device.updZone_clock (d : Device) (z : Nat) (f : Zone → Zone) : (d.updZone z f).clock = d.clock := rfl
@[simp] theorem Device.updZone_sup (d : Device) (z : Nat) (f : Zone → Zone) : (d.updZone z f).sup = d.sup := rfl
@[simp] theorem Device.updZone_link (d : Device) (z : Nat) (f : Zone → Zone) : (d.updZone z f).link = d.link := rfl
@[simp] theorem Device.updZone_points (d : Device) (z : Nat) (f : Zone → Zone) : (d.updZone z f).points = d.points := rfl
@[simp] theorem Device.updZone_classes (d : Device) (z : Nat) (f : Zone → Zone) : (d.updZone z f).classes = d.classes := rfl
@[simp] theorem Device.updZone_loops (d : Device) (z : Nat) (f : Zone → Zone) : (d.updZone z f).loops = d.loops := rfl
@[simp] theorem Device.updZone_zones (d : Device) (z : Nat) (f : Zone → Zone) : (d.updZone z f).zones = Tab.upd d.zones z f := rfl
@[simp] theorem Device.updZone_alarmHold (d : Device) (z : Nat) (f : Zone → Zone) : (d.updZone z f).alarmHold = d.alarmHold := rfl
@[simp] theorem Device.updZone_sounders (d : Device) (z : Nat) (f : Zone → Zone) : (d.updZone z f).sounders = d.sounders := rfl
@[simp] theorem Device.updZone_doors (d : Device) (z : Nat) (f : Zone → Zone) : (d.updZone z f).doors = d.doors := rfl
@[simp] theorem Device.updZone_doorLine (d : Device) (z : Nat) (f : Zone → Zone) : (d.updZone z f).doorLine = d.doorLine := rfl
@[simp] theorem Device.updZone_regime (d : Device) (z : Nat) (f : Zone → Zone) : (d.updZone z f).regime = d.regime := rfl
@[simp] theorem Device.updZone_rules (d : Device) (z : Nat) (f : Zone → Zone) : (d.updZone z f).rules = d.rules := rfl
@[simp] theorem Device.updZone_daySlots (d : Device) (z : Nat) (f : Zone → Zone) : (d.updZone z f).daySlots = d.daySlots := rfl
@[simp] theorem Device.updZone_nightSlots (d : Device) (z : Nat) (f : Zone → Zone) : (d.updZone z f).nightSlots = d.nightSlots := rfl
@[simp] theorem Device.updZone_relays (d : Device) (z : Nat) (f : Zone → Zone) : (d.updZone z f).relays = d.relays := rfl
@[simp] theorem Device.updZone_mainsFail (d : Device) (z : Nat) (f : Zone → Zone) : (d.updZone z f).mainsFail = d.mainsFail := rfl
@[simp] theorem Device.updZone_board (d : Device) (z : Nat) (f : Zone → Zone) : (d.updZone z f).board = d.board := rfl
@[simp] theorem Device.updZone_passages (d : Device) (z : Nat) (f : Zone → Zone) : (d.updZone z f).passages = d.passages := rfl
@[simp] theorem Device.updZone_route (d : Device) (z : Nat) (f : Zone → Zone) : (d.updZone z f).route = d.route := rfl
@[simp] theorem Device.updZone_signs (d : Device) (z : Nat) (f : Zone → Zone) : (d.updZone z f).signs = d.signs := rfl
@[simp] theorem Device.updZone_groups (d : Device) (z : Nat) (f : Zone → Zone) : (d.updZone z f).groups = d.groups := rfl
@[simp] theorem Device.updZone_signLine (d : Device) (z : Nat) (f : Zone → Zone) : (d.updZone z f).signLine = d.signLine := rfl
@[simp] theorem Device.updZone_freeReads (d : Device) (z : Nat) (f : Zone → Zone) : (d.updZone z f).freeReads = d.freeReads := rfl

@[simp] theorem Device.putSounder_inputs (d : Device) (c : Nat) (r : Sounder) : (d.putSounder c r).inputs = d.inputs := rfl
@[simp] theorem Device.putSounder_clock (d : Device) (c : Nat) (r : Sounder) : (d.putSounder c r).clock = d.clock := rfl
@[simp] theorem Device.putSounder_sup (d : Device) (c : Nat) (r : Sounder) : (d.putSounder c r).sup = d.sup := rfl
@[simp] theorem Device.putSounder_link (d : Device) (c : Nat) (r : Sounder) : (d.putSounder c r).link = d.link := rfl
@[simp] theorem Device.putSounder_points (d : Device) (c : Nat) (r : Sounder) : (d.putSounder c r).points = d.points := rfl
@[simp] theorem Device.putSounder_classes (d : Device) (c : Nat) (r : Sounder) : (d.putSounder c r).classes = d.classes := rfl
@[simp] theorem Device.putSounder_loops (d : Device) (c : Nat) (r : Sounder) : (d.putSounder c r).loops = d.loops := rfl
@[simp] theorem Device.putSounder_zones (d : Device) (c : Nat) (r : Sounder) : (d.putSounder c r).zones = d.zones := rfl
@[simp] theorem Device.putSounder_alarmHold (d : Device) (c : Nat) (r : Sounder) : (d.putSounder c r).alarmHold = d.alarmHold := rfl
@[simp] theorem Device.putSounder_sounders (d : Device) (c : Nat) (r : Sounder) : (d.putSounder c r).sounders = Tab.put d.sounders c r := rfl
@[simp] theorem Device.putSounder_doors (d : Device) (c : Nat) (r : Sounder) : (d.putSounder c r).doors = d.doors := rfl
@[simp] theorem Device.putSounder_doorLine (d : Device) (c : Nat) (r : Sounder) : (d.putSounder c r).doorLine = d.doorLine := rfl
@[simp] theorem Device.putSounder_regime (d : Device) (c : Nat) (r : Sounder) : (d.putSounder c r).regime = d.regime := rfl
@[simp] theorem Device.putSounder_rules (d : Device) (c : Nat) (r : Sounder) : (d.putSounder c r).rules = d.rules := rfl
@[simp] theorem Device.putSounder_daySlots (d : Device) (c : Nat) (r : Sounder) : (d.putSounder c r).daySlots = d.daySlots := rfl
@[simp] theorem Device.putSounder_nightSlots (d : Device) (c : Nat) (r : Sounder) : (d.putSounder c r).nightSlots = d.nightSlots := rfl
@[simp] theorem Device.putSounder_relays (d : Device) (c : Nat) (r : Sounder) : (d.putSounder c r).relays = d.relays := rfl
@[simp] theorem Device.putSounder_mainsFail (d : Device) (c : Nat) (r : Sounder) : (d.putSounder c r).mainsFail = d.mainsFail := rfl
@[simp] theorem Device.putSounder_board (d : Device) (c : Nat) (r : Sounder) : (d.putSounder c r).board = d.board := rfl
@[simp] theorem Device.putSounder_passages (d : Device) (c : Nat) (r : Sounder) : (d.putSounder c r).passages = d.passages := rfl
@[simp] theorem Device.putSounder_route (d : Device) (c : Nat) (r : Sounder) : (d.putSounder c r).route = d.route := rfl
@[simp] theorem Device.putSounder_signs (d : Device) (c : Nat) (r : Sounder) : (d.putSounder c r).signs = d.signs := rfl
@[simp] theorem Device.putSounder_groups (d : Device) (c : Nat) (r : Sounder) : (d.putSounder c r).groups = d.groups := rfl
@[simp] theorem Device.putSounder_signLine (d : Device) (c : Nat) (r : Sounder) : (d.putSounder c r).signLine = d.signLine := rfl
@[simp] theorem Device.putSounder_freeReads (d : Device) (c : Nat) (r : Sounder) : (d.putSounder c r).freeReads = d.freeReads := rfl

@[simp] theorem Device.putDoor_inputs (d : Device) (n : Nat) (r : Door) : (d.putDoor n r).inputs = d.inputs := rfl
@[simp] theorem Device.putDoor_clock (d : Device) (n : Nat) (r : Door) : (d.putDoor n r).clock = d.clock := rfl
@[simp] theorem Device.putDoor_sup (d : Device) (n : Nat) (r : Door) : (d.putDoor n r).sup = d.sup := rfl
@[simp] theorem Device.putDoor_link (d : Device) (n : Nat) (r : Door) : (d.putDoor n r).link = d.link := rfl
@[simp] theorem Device.putDoor_points (d : Device) (n : Nat) (r : Door) : (d.putDoor n r).points = d.points := rfl
@[simp] theorem Device.putDoor_classes (d : Device) (n : Nat) (r : Door) : (d.putDoor n r).classes = d.classes := rfl
@[simp] theorem Device.putDoor_loops (d : Device) (n : Nat) (r : Door) : (d.putDoor n r).loops = d.loops := rfl
@[simp] theorem Device.putDoor_zones (d : Device) (n : Nat) (r : Door) : (d.putDoor n r).zones = d.zones := rfl
@[simp] theorem Device.putDoor_alarmHold (d : Device) (n : Nat) (r : Door) : (d.putDoor n r).alarmHold = d.alarmHold := rfl
@[simp] theorem Device.putDoor_sounders (d : Device) (n : Nat) (r : Door) : (d.putDoor n r).sounders = d.sounders := rfl
@[simp] theorem Device.putDoor_doors (d : Device) (n : Nat) (r : Door) : (d.putDoor n r).doors = Tab.put d.doors n (some r) := rfl
@[simp] theorem Device.putDoor_doorLine (d : Device) (n : Nat) (r : Door) : (d.putDoor n r).doorLine = d.doorLine := rfl
@[simp] theorem Device.putDoor_regime (d : Device) (n : Nat) (r : Door) : (d.putDoor n r).regime = d.regime := rfl
@[simp] theorem Device.putDoor_rules (d : Device) (n : Nat) (r : Door) : (d.putDoor n r).rules = d.rules := rfl
@[simp] theorem Device.putDoor_daySlots (d : Device) (n : Nat) (r : Door) : (d.putDoor n r).daySlots = d.daySlots := rfl
@[simp] theorem Device.putDoor_nightSlots (d : Device) (n : Nat) (r : Door) : (d.putDoor n r).nightSlots = d.nightSlots := rfl
@[simp] theorem Device.putDoor_relays (d : Device) (n : Nat) (r : Door) : (d.putDoor n r).relays = d.relays := rfl
@[simp] theorem Device.putDoor_mainsFail (d : Device) (n : Nat) (r : Door) : (d.putDoor n r).mainsFail = d.mainsFail := rfl
@[simp] theorem Device.putDoor_board (d : Device) (n : Nat) (r : Door) : (d.putDoor n r).board = d.board := rfl
@[simp] theorem Device.putDoor_passages (d : Device) (n : Nat) (r : Door) : (d.putDoor n r).passages = d.passages := rfl
@[simp] theorem Device.putDoor_route (d : Device) (n : Nat) (r : Door) : (d.putDoor n r).route = d.route := rfl
@[simp] theorem Device.putDoor_signs (d : Device) (n : Nat) (r : Door) : (d.putDoor n r).signs = d.signs := rfl
@[simp] theorem Device.putDoor_groups (d : Device) (n : Nat) (r : Door) : (d.putDoor n r).groups = d.groups := rfl
@[simp] theorem Device.putDoor_signLine (d : Device) (n : Nat) (r : Door) : (d.putDoor n r).signLine = d.signLine := rfl
@[simp] theorem Device.putDoor_freeReads (d : Device) (n : Nat) (r : Door) : (d.putDoor n r).freeReads = d.freeReads := rfl

@[simp] theorem Device.updDoor_inputs (d : Device) (n : Nat) (f : Door → Door) : (d.updDoor n f).inputs = d.inputs := rfl
@[simp] theorem Device.updDoor_clock (d : Device) (n : Nat) (f : Door → Door) : (d.updDoor n f).clock = d.clock := rfl
@[simp] theorem Device.updDoor_sup (d : Device) (n : Nat) (f : Door → Door) : (d.updDoor n f).sup = d.sup := rfl
@[simp] theorem Device.updDoor_link (d : Device) (n : Nat) (f : Door → Door) : (d.updDoor n f).link = d.link := rfl
@[simp] theorem Device.updDoor_points (d : Device) (n : Nat) (f : Door → Door) : (d.updDoor n f).points = d.points := rfl
@[simp] theorem Device.updDoor_classes (d : Device) (n : Nat) (f : Door → Door) : (d.updDoor n f).classes = d.classes := rfl
@[simp] theorem Device.updDoor_loops (d : Device) (n : Nat) (f : Door → Door) : (d.updDoor n f).loops = d.loops := rfl
@[simp] theorem Device.updDoor_zones (d : Device) (n : Nat) (f : Door → Door) : (d.updDoor n f).zones = d.zones := rfl
@[simp] theorem Device.updDoor_alarmHold (d : Device) (n : Nat) (f : Door → Door) : (d.updDoor n f).alarmHold = d.alarmHold := rfl
@[simp] theorem Device.updDoor_sounders (d : Device) (n : Nat) (f : Door → Door) : (d.updDoor n f).sounders = d.sounders := rfl
@[simp] theorem Device.updDoor_doors (d : Device) (n : Nat) (f : Door → Door) : (d.updDoor n f).doors = Tab.upd d.doors n f := rfl
@[simp] theorem Device.updDoor_doorLine (d : Device) (n : Nat) (f : Door → Door) : (d.updDoor n f).doorLine = d.doorLine := rfl
@[simp] theorem Device.updDoor_regime (d : Device) (n : Nat) (f : Door → Door) : (d.updDoor n f).regime = d.regime := rfl
@[simp] theorem Device.updDoor_rules (d : Device) (n : Nat) (f : Door → Door) : (d.updDoor n f).rules = d.rules := rfl
@[simp] theorem Device.updDoor_daySlots (d : Device) (n : Nat) (f : Door → Door) : (d.updDoor n f).daySlots = d.daySlots := rfl
@[simp] theorem Device.updDoor_nightSlots (d : Device) (n : Nat) (f : Door → Door) : (d.updDoor n f).nightSlots = d.nightSlots := rfl
@[simp] theorem Device.updDoor_relays (d : Device) (n : Nat) (f : Door → Door) : (d.updDoor n f).relays = d.relays := rfl
@[simp] theorem Device.updDoor_mainsFail (d : Device) (n : Nat) (f : Door → Door) : (d.updDoor n f).mainsFail = d.mainsFail := rfl
@[simp] theorem Device.updDoor_board (d : Device) (n : Nat) (f : Door → Door) : (d.updDoor n f).board = d.board := rfl
@[simp] theorem Device.updDoor_passages (d : Device) (n : Nat) (f : Door → Door) : (d.updDoor n f).passages = d.passages := rfl
@[simp] theorem Device.updDoor_route (d : Device) (n : Nat) (f : Door → Door) : (d.updDoor n f).route = d.route := rfl
@[simp] theorem Device.updDoor_signs (d : Device) (n : Nat) (f : Door → Door) : (d.updDoor n f).signs = d.signs := rfl
@[simp] theorem Device.updDoor_groups (d : Device) (n : Nat) (f : Door → Door) : (d.updDoor n f).groups = d.groups := rfl
@[simp] theorem Device.updDoor_signLine (d : Device) (n : Nat) (f : Door → Door) : (d.updDoor n f).signLine = d.signLine := rfl
@[simp] theorem Device.updDoor_freeReads (d : Device) (n : Nat) (f : Door → Door) : (d.updDoor n f).freeReads = d.freeReads := rfl

@[simp] theorem Device.putRule_inputs (d : Device) (e : Nat) (r : Rule) : (d.putRule e r).inputs = d.inputs := rfl
@[simp] theorem Device.putRule_clock (d : Device) (e : Nat) (r : Rule) : (d.putRule e r).clock = d.clock := rfl
@[simp] theorem Device.putRule_sup (d : Device) (e : Nat) (r : Rule) : (d.putRule e r).sup = d.sup := rfl
@[simp] theorem Device.putRule_link (d : Device) (e : Nat) (r : Rule) : (d.putRule e r).link = d.link := rfl
@[simp] theorem Device.putRule_points (d : Device) (e : Nat) (r : Rule) : (d.putRule e r).points = d.points := rfl
@[simp] theorem Device.putRule_classes (d : Device) (e : Nat) (r : Rule) : (d.putRule e r).classes = d.classes := rfl
@[simp] theorem Device.putRule_loops (d : Device) (e : Nat) (r : Rule) : (d.putRule e r).loops = d.loops := rfl
@[simp] theorem Device.putRule_zones (d : Device) (e : Nat) (r : Rule) : (d.putRule e r).zones = d.zones := rfl
@[simp] theorem Device.putRule_alarmHold (d : Device) (e : Nat) (r : Rule) : (d.putRule e r).alarmHold = d.alarmHold := rfl
@[simp] theorem Device.putRule_sounders (d : Device) (e : Nat) (r : Rule) : (d.putRule e r).sounders = d.sounders := rfl
@[simp] theorem Device.putRule_doors (d : Device) (e : Nat) (r : Rule) : (d.putRule e r).doors = d.doors := rfl
@[simp] theorem Device.putRule_doorLine (d : Device) (e : Nat) (r : Rule) : (d.putRule e r).doorLine = d.doorLine := rfl
@[simp] theorem Device.putRule_regime (d : Device) (e : Nat) (r : Rule) : (d.putRule e r).regime = d.regime := rfl
@[simp] theorem Device.putRule_rules (d : Device) (e : Nat) (r : Rule) : (d.putRule e r).rules = Tab.put d.rules e (some r) := rfl
@[simp] theorem Device.putRule_daySlots (d : Device) (e : Nat) (r : Rule) : (d.putRule e r).daySlots = d.daySlots := rfl
@[simp] theorem Device.putRule_nightSlots (d : Device) (e : Nat) (r : Rule) : (d.putRule e r).nightSlots = d.nightSlots := rfl
@[simp] theorem Device.putRule_relays (d : Device) (e : Nat) (r : Rule) : (d.putRule e r).relays = d.relays := rfl
@[simp] theorem Device.putRule_mainsFail (d : Device) (e : Nat) (r : Rule) : (d.putRule e r).mainsFail = d.mainsFail := rfl
@[simp] theorem Device.putRule_board (d : Device) (e : Nat) (r : Rule) : (d.putRule e r).board = d.board := rfl
@[simp] theorem Device.putRule_passages (d : Device) (e : Nat) (r : Rule) : (d.putRule e r).passages = d.passages := rfl
@[simp] theorem Device.putRule_route (d : Device) (e : Nat) (r : Rule) : (d.putRule e r).route = d.route := rfl
@[simp] theorem Device.putRule_signs (d : Device) (e : Nat) (r : Rule) : (d.putRule e r).signs = d.signs := rfl
@[simp] theorem Device.putRule_groups (d : Device) (e : Nat) (r : Rule) : (d.putRule e r).groups = d.groups := rfl
@[simp] theorem Device.putRule_signLine (d : Device) (e : Nat) (r : Rule) : (d.putRule e r).signLine = d.signLine := rfl
@[simp] theorem Device.putRule_freeReads (d : Device) (e : Nat) (r : Rule) : (d.putRule e r).freeReads = d.freeReads := rfl

@[simp] theorem Device.putSign_inputs (d : Device) (n : Nat) (r : Sign) : (d.putSign n r).inputs = d.inputs := rfl
@[simp] theorem Device.putSign_clock (d : Device) (n : Nat) (r : Sign) : (d.putSign n r).clock = d.clock := rfl
@[simp] theorem Device.putSign_sup (d : Device) (n : Nat) (r : Sign) : (d.putSign n r).sup = d.sup := rfl
@[simp] theorem Device.putSign_link (d : Device) (n : Nat) (r : Sign) : (d.putSign n r).link = d.link := rfl
@[simp] theorem Device.putSign_points (d : Device) (n : Nat) (r : Sign) : (d.putSign n r).points = d.points := rfl
@[simp] theorem Device.putSign_classes (d : Device) (n : Nat) (r : Sign) : (d.putSign n r).classes = d.classes := rfl
@[simp] theorem Device.putSign_loops (d : Device) (n : Nat) (r : Sign) : (d.putSign n r).loops = d.loops := rfl
@[simp] theorem Device.putSign_zones (d : Device) (n : Nat) (r : Sign) : (d.putSign n r).zones = d.zones := rfl
@[simp] theorem Device.putSign_alarmHold (d : Device) (n : Nat) (r : Sign) : (d.putSign n r).alarmHold = d.alarmHold := rfl
@[simp] theorem Device.putSign_sounders (d : Device) (n : Nat) (r : Sign) : (d.putSign n r).sounders = d.sounders := rfl
@[simp] theorem Device.putSign_doors (d : Device) (n : Nat) (r : Sign) : (d.putSign n r).doors = d.doors := rfl
@[simp] theorem Device.putSign_doorLine (d : Device) (n : Nat) (r : Sign) : (d.putSign n r).doorLine = d.doorLine := rfl
@[simp] theorem Device.putSign_regime (d : Device) (n : Nat) (r : Sign) : (d.putSign n r).regime = d.regime := rfl
@[simp] theorem Device.putSign_rules (d : Device) (n : Nat) (r : Sign) : (d.putSign n r).rules = d.rules := rfl
@[simp] theorem Device.putSign_daySlots (d : Device) (n : Nat) (r : Sign) : (d.putSign n r).daySlots = d.daySlots := rfl
@[simp] theorem Device.putSign_nightSlots (d : Device) (n : Nat) (r : Sign) : (d.putSign n r).nightSlots = d.nightSlots := rfl
@[simp] theorem Device.putSign_relays (d : Device) (n : Nat) (r : Sign) : (d.putSign n r).relays = d.relays := rfl
@[simp] theorem Device.putSign_mainsFail (d : Device) (n : Nat) (r : Sign) : (d.putSign n r).mainsFail = d.mainsFail := rfl
@[simp] theorem Device.putSign_board (d : Device) (n : Nat) (r : Sign) : (d.putSign n r).board = d.board := rfl
@[simp] theorem Device.putSign_passages (d : Device) (n : Nat) (r : Sign) : (d.putSign n r).passages = d.passages := rfl
@[simp] theorem Device.putSign_route (d : Device) (n : Nat) (r : Sign) : (d.putSign n r).route = d.route := rfl
@[simp] theorem Device.putSign_signs (d : Device) (n : Nat) (r : Sign) : (d.putSign n r).signs = Tab.put d.signs n (some r) := rfl
@[simp] theorem Device.putSign_groups (d : Device) (n : Nat) (r : Sign) : (d.putSign n r).groups = d.groups := rfl
@[simp] theorem Device.putSign_signLine (d : Device) (n : Nat) (r : Sign) : (d.putSign n r).signLine = d.signLine := rfl
@[simp] theorem Device.putSign_freeReads (d : Device) (n : Nat) (r : Sign) : (d.putSign n r).freeReads = d.freeReads := rfl

@[simp] theorem Device.updSign_inputs (d : Device) (n : Nat) (f : Sign → Sign) : (d.updSign n f).inputs = d.inputs := rfl
@[simp] theorem Device.updSign_clock (d : Device) (n : Nat) (f : Sign → Sign) : (d.updSign n f).clock = d.clock := rfl
@[simp] theorem Device.updSign_sup (d : Device) (n : Nat) (f : Sign → Sign) : (d.updSign n f).sup = d.sup := rfl
@[simp] theorem Device.updSign_link (d : Device) (n : Nat) (f : Sign → Sign) : (d.updSign n f).link = d.link := rfl
@[simp] theorem Device.updSign_points (d : Device) (n : Nat) (f : Sign → Sign) : (d.updSign n f).points = d.points := rfl
@[simp] theorem Device.updSign_classes (d : Device) (n : Nat) (f : Sign → Sign) : (d.updSign n f).classes = d.classes := rfl
@[simp] theorem Device.updSign_loops (d : Device) (n : Nat) (f : Sign → Sign) : (d.updSign n f).loops = d.loops := rfl
@[simp] theorem Device.updSign_zones (d : Device) (n : Nat) (f : Sign → Sign) : (d.updSign n f).zones = d.zones := rfl
@[simp] theorem Device.updSign_alarmHold (d : Device) (n : Nat) (f : Sign → Sign) : (d.updSign n f).alarmHold = d.alarmHold := rfl
@[simp] theorem Device.updSign_sounders (d : Device) (n : Nat) (f : Sign → Sign) : (d.updSign n f).sounders = d.sounders := rfl
@[simp] theorem Device.updSign_doors (d : Device) (n : Nat) (f : Sign → Sign) : (d.updSign n f).doors = d.doors := rfl
@[simp] theorem Device.updSign_doorLine (d : Device) (n : Nat) (f : Sign → Sign) : (d.updSign n f).doorLine = d.doorLine := rfl
@[simp] theorem Device.updSign_regime (d : Device) (n : Nat) (f : Sign → Sign) : (d.updSign n f).regime = d.regime := rfl
@[simp] theorem Device.updSign_rules (d : Device) (n : Nat) (f : Sign → Sign) : (d.updSign n f).rules = d.rules := rfl
@[simp] theorem Device.updSign_daySlots (d : Device) (n : Nat) (f : Sign → Sign) : (d.updSign n f).daySlots = d.daySlots := rfl
@[simp] theorem Device.updSign_nightSlots (d : Device) (n : Nat) (f : Sign → Sign) : (d.updSign n f).nightSlots = d.nightSlots := rfl
@[simp] theorem Device.updSign_relays (d : Device) (n : Nat) (f : Sign → Sign) : (d.updSign n f).relays = d.relays := rfl
@[simp] theorem Device.updSign_mainsFail (d : Device) (n : Nat) (f : Sign → Sign) : (d.updSign n f).mainsFail = d.mainsFail := rfl
@[simp] theorem Device.updSign_board (d : Device) (n : Nat) (f : Sign → Sign) : (d.updSign n f).board = d.board := rfl
@[simp] theorem Device.updSign_passages (d : Device) (n : Nat) (f : Sign → Sign) : (d.updSign n f).passages = d.passages := rfl
@[simp] theorem Device.updSign_route (d : Device) (n : Nat) (f : Sign → Sign) : (d.updSign n f).route = d.route := rfl
@[simp] theorem Device.updSign_signs (d : Device) (n : Nat) (f : Sign → Sign) : (d.updSign n f).signs = Tab.upd d.signs n f := rfl
@[simp] theorem Device.updSign_groups (d : Device) (n : Nat) (f : Sign → Sign) : (d.updSign n f).groups = d.groups := rfl
@[simp] theorem Device.updSign_signLine (d : Device) (n : Nat) (f : Sign → Sign) : (d.updSign n f).signLine = d.signLine := rfl
@[simp] theorem Device.updSign_freeReads (d : Device) (n : Nat) (f : Sign → Sign) : (d.updSign n f).freeReads = d.freeReads := rfl

@[simp] theorem Device.putGroup_inputs (d : Device) (g : Nat) (r : Group) : (d.putGroup g r).inputs = d.inputs := rfl
@[simp] theorem Device.putGroup_clock (d : Device) (g : Nat) (r : Group) : (d.putGroup g r).clock = d.clock := rfl
@[simp] theorem Device.putGroup_sup (d : Device) (g : Nat) (r : Group) : (d.putGroup g r).sup = d.sup := rfl
@[simp] theorem Device.putGroup_link (d : Device) (g : Nat) (r : Group) : (d.putGroup g r).link = d.link := rfl
@[simp] theorem Device.putGroup_points (d : Device) (g : Nat) (r : Group) : (d.putGroup g r).points = d.points := rfl
@[simp] theorem Device.putGroup_classes (d : Device) (g : Nat) (r : Group) : (d.putGroup g r).classes = d.classes := rfl
@[simp] theorem Device.putGroup_loops (d : Device) (g : Nat) (r : Group) : (d.putGroup g r).loops = d.loops := rfl
@[simp] theorem Device.putGroup_zones (d : Device) (g : Nat) (r : Group) : (d.putGroup g r).zones = d.zones := rfl
@[simp] theorem Device.putGroup_alarmHold (d : Device) (g : Nat) (r : Group) : (d.putGroup g r).alarmHold = d.alarmHold := rfl
@[simp] theorem Device.putGroup_sounders (d : Device) (g : Nat) (r : Group) : (d.putGroup g r).sounders = d.sounders := rfl
@[simp] theorem Device.putGroup_doors (d : Device) (g : Nat) (r : Group) : (d.putGroup g r).doors = d.doors := rfl
@[simp] theorem Device.putGroup_doorLine (d : Device) (g : Nat) (r : Group) : (d.putGroup g r).doorLine = d.doorLine := rfl
@[simp] theorem Device.putGroup_regime (d : Device) (g : Nat) (r : Group) : (d.putGroup g r).regime = d.regime := rfl
@[simp] theorem Device.putGroup_rules (d : Device) (g : Nat) (r : Group) : (d.putGroup g r).rules = d.rules := rfl
@[simp] theorem Device.putGroup_daySlots (d : Device) (g : Nat) (r : Group) : (d.putGroup g r).daySlots = d.daySlots := rfl
@[simp] theorem Device.putGroup_nightSlots (d : Device) (g : Nat) (r : Group) : (d.putGroup g r).nightSlots = d.nightSlots := rfl
@[simp] theorem Device.putGroup_relays (d : Device) (g : Nat) (r : Group) : (d.putGroup g r).relays = d.relays := rfl
@[simp] theorem Device.putGroup_mainsFail (d : Device) (g : Nat) (r : Group) : (d.putGroup g r).mainsFail = d.mainsFail := rfl
@[simp] theorem Device.putGroup_board (d : Device) (g : Nat) (r : Group) : (d.putGroup g r).board = d.board := rfl
@[simp] theorem Device.putGroup_passages (d : Device) (g : Nat) (r : Group) : (d.putGroup g r).passages = d.passages := rfl
@[simp] theorem Device.putGroup_route (d : Device) (g : Nat) (r : Group) : (d.putGroup g r).route = d.route := rfl
@[simp] theorem Device.putGroup_signs (d : Device) (g : Nat) (r : Group) : (d.putGroup g r).signs = d.signs := rfl
@[simp] theorem Device.putGroup_groups (d : Device) (g : Nat) (r : Group) : (d.putGroup g r).groups = Tab.put d.groups g r := rfl
@[simp] theorem Device.putGroup_signLine (d : Device) (g : Nat) (r : Group) : (d.putGroup g r).signLine = d.signLine := rfl
@[simp] theorem Device.putGroup_freeReads (d : Device) (g : Nat) (r : Group) : (d.putGroup g r).freeReads = d.freeReads := rfl

@[simp] theorem Device.updLink_inputs (d : Device) (f : Link → Link) : (d.updLink f).inputs = d.inputs := rfl
@[simp] theorem Device.updLink_clock (d : Device) (f : Link → Link) : (d.updLink f).clock = d.clock := rfl
@[simp] theorem Device.updLink_sup (d : Device) (f : Link → Link) : (d.updLink f).sup = d.sup := rfl
@[simp] theorem Device.updLink_link (d : Device) (f : Link → Link) : (d.updLink f).link = f d.link := rfl
@[simp] theorem Device.updLink_points (d : Device) (f : Link → Link) : (d.updLink f).points = d.points := rfl
@[simp] theorem Device.updLink_classes (d : Device) (f : Link → Link) : (d.updLink f).classes = d.classes := rfl
@[simp] theorem Device.updLink_loops (d : Device) (f : Link → Link) : (d.updLink f).loops = d.loops := rfl
@[simp] theorem Device.updLink_zones (d : Device) (f : Link → Link) : (d.updLink f).zones = d.zones := rfl
@[simp] theorem Device.updLink_alarmHold (d : Device) (f : Link → Link) : (d.updLink f).alarmHold = d.alarmHold := rfl
@[simp] theorem Device.updLink_sounders (d : Device) (f : Link → Link) : (d.updLink f).sounders = d.sounders := rfl
@[simp] theorem Device.updLink_doors (d : Device) (f : Link → Link) : (d.updLink f).doors = d.doors := rfl
@[simp] theorem Device.updLink_doorLine (d : Device) (f : Link → Link) : (d.updLink f).doorLine = d.doorLine := rfl
@[simp] theorem Device.updLink_regime (d : Device) (f : Link → Link) : (d.updLink f).regime = d.regime := rfl
@[simp] theorem Device.updLink_rules (d : Device) (f : Link → Link) : (d.updLink f).rules = d.rules := rfl
@[simp] theorem Device.updLink_daySlots (d : Device) (f : Link → Link) : (d.updLink f).daySlots = d.daySlots := rfl
@[simp] theorem Device.updLink_nightSlots (d : Device) (f : Link → Link) : (d.updLink f).nightSlots = d.nightSlots := rfl
@[simp] theorem Device.updLink_relays (d : Device) (f : Link → Link) : (d.updLink f).relays = d.relays := rfl
@[simp] theorem Device.updLink_mainsFail (d : Device) (f : Link → Link) : (d.updLink f).mainsFail = d.mainsFail := rfl
@[simp] theorem Device.updLink_board (d : Device) (f : Link → Link) : (d.updLink f).board = d.board := rfl
@[simp] theorem Device.updLink_passages (d : Device) (f : Link → Link) : (d.updLink f).passages = d.passages := rfl
@[simp] theorem Device.updLink_route (d : Device) (f : Link → Link) : (d.updLink f).route = d.route := rfl
@[simp] theorem Device.updLink_signs (d : Device) (f : Link → Link) : (d.updLink f).signs = d.signs := rfl
@[simp] theorem Device.updLink_groups (d : Device) (f : Link → Link) : (d.updLink f).groups = d.groups := rfl
@[simp] theorem Device.updLink_signLine (d : Device) (f : Link → Link) : (d.updLink f).signLine = d.signLine := rfl
@[simp] theorem Device.updLink_freeReads (d : Device) (f : Link → Link) : (d.updLink f).freeReads = d.freeReads := rfl

@[simp] theorem Device.report_inputs (d : Device) (c : ReportClass) (o : Nat) (x : ReportState) : (d.report c o x).inputs = d.inputs := rfl
@[simp] theorem Device.report_clock (d : Device) (c : ReportClass) (o : Nat) (x : ReportState) : (d.report c o x).clock = d.clock := rfl
@[simp] theorem Device.report_sup (d : Device) (c : ReportClass) (o : Nat) (x : ReportState) : (d.report c o x).sup = d.sup := rfl
@[simp] theorem Device.report_link (d : Device) (c : ReportClass) (o : Nat) (x : ReportState) : (d.report c o x).link = d.link.queue { cls := c, object := o, state := x, stamp := d.clock } := rfl
@[simp] theorem Device.report_points (d : Device) (c : ReportClass) (o : Nat) (x : ReportState) : (d.report c o x).points = d.points := rfl
@[simp] theorem Device.report_classes (d : Device) (c : ReportClass) (o : Nat) (x : ReportState) : (d.report c o x).classes = d.classes := rfl
@[simp] theorem Device.report_loops (d : Device) (c : ReportClass) (o : Nat) (x : ReportState) : (d.report c o x).loops = d.loops := rfl
@[simp] theorem Device.report_zones (d : Device) (c : ReportClass) (o : Nat) (x : ReportState) : (d.report c o x).zones = d.zones := rfl
@[simp] theorem Device.report_alarmHold (d : Device) (c : ReportClass) (o : Nat) (x : ReportState) : (d.report c o x).alarmHold = d.alarmHold := rfl
@[simp] theorem Device.report_sounders (d : Device) (c : ReportClass) (o : Nat) (x : ReportState) : (d.report c o x).sounders = d.sounders := rfl
@[simp] theorem Device.report_doors (d : Device) (c : ReportClass) (o : Nat) (x : ReportState) : (d.report c o x).doors = d.doors := rfl
@[simp] theorem Device.report_doorLine (d : Device) (c : ReportClass) (o : Nat) (x : ReportState) : (d.report c o x).doorLine = d.doorLine := rfl
@[simp] theorem Device.report_regime (d : Device) (c : ReportClass) (o : Nat) (x : ReportState) : (d.report c o x).regime = d.regime := rfl
@[simp] theorem Device.report_rules (d : Device) (c : ReportClass) (o : Nat) (x : ReportState) : (d.report c o x).rules = d.rules := rfl
@[simp] theorem Device.report_daySlots (d : Device) (c : ReportClass) (o : Nat) (x : ReportState) : (d.report c o x).daySlots = d.daySlots := rfl
@[simp] theorem Device.report_nightSlots (d : Device) (c : ReportClass) (o : Nat) (x : ReportState) : (d.report c o x).nightSlots = d.nightSlots := rfl
@[simp] theorem Device.report_relays (d : Device) (c : ReportClass) (o : Nat) (x : ReportState) : (d.report c o x).relays = d.relays := rfl
@[simp] theorem Device.report_mainsFail (d : Device) (c : ReportClass) (o : Nat) (x : ReportState) : (d.report c o x).mainsFail = d.mainsFail := rfl
@[simp] theorem Device.report_board (d : Device) (c : ReportClass) (o : Nat) (x : ReportState) : (d.report c o x).board = d.board := rfl
@[simp] theorem Device.report_passages (d : Device) (c : ReportClass) (o : Nat) (x : ReportState) : (d.report c o x).passages = d.passages := rfl
@[simp] theorem Device.report_route (d : Device) (c : ReportClass) (o : Nat) (x : ReportState) : (d.report c o x).route = d.route := rfl
@[simp] theorem Device.report_signs (d : Device) (c : ReportClass) (o : Nat) (x : ReportState) : (d.report c o x).signs = d.signs := rfl
@[simp] theorem Device.report_groups (d : Device) (c : ReportClass) (o : Nat) (x : ReportState) : (d.report c o x).groups = d.groups := rfl
@[simp] theorem Device.report_signLine (d : Device) (c : ReportClass) (o : Nat) (x : ReportState) : (d.report c o x).signLine = d.signLine := rfl
@[simp] theorem Device.report_freeReads (d : Device) (c : ReportClass) (o : Nat) (x : ReportState) : (d.report c o x).freeReads = d.freeReads := rfl

@[simp] theorem Device.reply_inputs (d : Device) (k : Byte) (h : Header) (x : Status) (c : Content) : (d.reply k h x c).inputs = d.inputs := rfl
@[simp] theorem Device.reply_clock (d : Device) (k : Byte) (h : Header) (x : Status) (c : Content) : (d.reply k h x c).clock = d.clock := rfl
@[simp] theorem Device.reply_sup (d : Device) (k : Byte) (h : Header) (x : Status) (c : Content) : (d.reply k h x c).sup = d.sup := rfl
@[simp] theorem Device.reply_link (d : Device) (k : Byte) (h : Header) (x : Status) (c : Content) : (d.reply k h x c).link = { d.link with replies := d.link.replies ++ [{ kind := replyKind k, header := h, status := x, content := c }] } := rfl
@[simp] theorem Device.reply_points (d : Device) (k : Byte) (h : Header) (x : Status) (c : Content) : (d.reply k h x c).points = d.points := rfl
@[simp] theorem Device.reply_classes (d : Device) (k : Byte) (h : Header) (x : Status) (c : Content) : (d.reply k h x c).classes = d.classes := rfl
@[simp] theorem Device.reply_loops (d : Device) (k : Byte) (h : Header) (x : Status) (c : Content) : (d.reply k h x c).loops = d.loops := rfl
@[simp] theorem Device.reply_zones (d : Device) (k : Byte) (h : Header) (x : Status) (c : Content) : (d.reply k h x c).zones = d.zones := rfl
@[simp] theorem Device.reply_alarmHold (d : Device) (k : Byte) (h : Header) (x : Status) (c : Content) : (d.reply k h x c).alarmHold = d.alarmHold := rfl
@[simp] theorem Device.reply_sounders (d : Device) (k : Byte) (h : Header) (x : Status) (c : Content) : (d.reply k h x c).sounders = d.sounders := rfl
@[simp] theorem Device.reply_doors (d : Device) (k : Byte) (h : Header) (x : Status) (c : Content) : (d.reply k h x c).doors = d.doors := rfl
@[simp] theorem Device.reply_doorLine (d : Device) (k : Byte) (h : Header) (x : Status) (c : Content) : (d.reply k h x c).doorLine = d.doorLine := rfl
@[simp] theorem Device.reply_regime (d : Device) (k : Byte) (h : Header) (x : Status) (c : Content) : (d.reply k h x c).regime = d.regime := rfl
@[simp] theorem Device.reply_rules (d : Device) (k : Byte) (h : Header) (x : Status) (c : Content) : (d.reply k h x c).rules = d.rules := rfl
@[simp] theorem Device.reply_daySlots (d : Device) (k : Byte) (h : Header) (x : Status) (c : Content) : (d.reply k h x c).daySlots = d.daySlots := rfl
@[simp] theorem Device.reply_nightSlots (d : Device) (k : Byte) (h : Header) (x : Status) (c : Content) : (d.reply k h x c).nightSlots = d.nightSlots := rfl
@[simp] theorem Device.reply_relays (d : Device) (k : Byte) (h : Header) (x : Status) (c : Content) : (d.reply k h x c).relays = d.relays := rfl
@[simp] theorem Device.reply_mainsFail (d : Device) (k : Byte) (h : Header) (x : Status) (c : Content) : (d.reply k h x c).mainsFail = d.mainsFail := rfl
@[simp] theorem Device.reply_board (d : Device) (k : Byte) (h : Header) (x : Status) (c : Content) : (d.reply k h x c).board = d.board := rfl
@[simp] theorem Device.reply_passages (d : Device) (k : Byte) (h : Header) (x : Status) (c : Content) : (d.reply k h x c).passages = d.passages := rfl
@[simp] theorem Device.reply_route (d : Device) (k : Byte) (h : Header) (x : Status) (c : Content) : (d.reply k h x c).route = d.route := rfl
@[simp] theorem Device.reply_signs (d : Device) (k : Byte) (h : Header) (x : Status) (c : Content) : (d.reply k h x c).signs = d.signs := rfl
@[simp] theorem Device.reply_groups (d : Device) (k : Byte) (h : Header) (x : Status) (c : Content) : (d.reply k h x c).groups = d.groups := rfl
@[simp] theorem Device.reply_signLine (d : Device) (k : Byte) (h : Header) (x : Status) (c : Content) : (d.reply k h x c).signLine = d.signLine := rfl
@[simp] theorem Device.reply_freeReads (d : Device) (k : Byte) (h : Header) (x : Status) (c : Content) : (d.reply k h x c).freeReads = d.freeReads := rfl

@[simp] theorem Device.transmit_inputs (d : Device) : (d.transmit).inputs = d.inputs := rfl
@[simp] theorem Device.transmit_clock (d : Device) : (d.transmit).clock = d.clock := rfl
@[simp] theorem Device.transmit_sup (d : Device) : (d.transmit).sup = d.sup := rfl
@[simp] theorem Device.transmit_link (d : Device) : (d.transmit).link = d.link.transmit := rfl
@[simp] theorem Device.transmit_points (d : Device) : (d.transmit).points = d.points := rfl
@[simp] theorem Device.transmit_classes (d : Device) : (d.transmit).classes = d.classes := rfl
@[simp] theorem Device.transmit_loops (d : Device) : (d.transmit).loops = d.loops := rfl
@[simp] theorem Device.transmit_zones (d : Device) : (d.transmit).zones = d.zones := rfl
@[simp] theorem Device.transmit_alarmHold (d : Device) : (d.transmit).alarmHold = d.alarmHold := rfl
@[simp] theorem Device.transmit_sounders (d : Device) : (d.transmit).sounders = d.sounders := rfl
@[simp] theorem Device.transmit_doors (d : Device) : (d.transmit).doors = d.doors := rfl
@[simp] theorem Device.transmit_doorLine (d : Device) : (d.transmit).doorLine = d.doorLine := rfl
@[simp] theorem Device.transmit_regime (d : Device) : (d.transmit).regime = d.regime := rfl
@[simp] theorem Device.transmit_rules (d : Device) : (d.transmit).rules = d.rules := rfl
@[simp] theorem Device.transmit_daySlots (d : Device) : (d.transmit).daySlots = d.daySlots := rfl
@[simp] theorem Device.transmit_nightSlots (d : Device) : (d.transmit).nightSlots = d.nightSlots := rfl
@[simp] theorem Device.transmit_relays (d : Device) : (d.transmit).relays = d.relays := rfl
@[simp] theorem Device.transmit_mainsFail (d : Device) : (d.transmit).mainsFail = d.mainsFail := rfl
@[simp] theorem Device.transmit_board (d : Device) : (d.transmit).board = d.board := rfl
@[simp] theorem Device.transmit_passages (d : Device) : (d.transmit).passages = d.passages := rfl
@[simp] theorem Device.transmit_route (d : Device) : (d.transmit).route = d.route := rfl
@[simp] theorem Device.transmit_signs (d : Device) : (d.transmit).signs = d.signs := rfl
@[simp] theorem Device.transmit_groups (d : Device) : (d.transmit).groups = d.groups := rfl
@[simp] theorem Device.transmit_signLine (d : Device) : (d.transmit).signLine = d.signLine := rfl
@[simp] theorem Device.transmit_freeReads (d : Device) : (d.transmit).freeReads = d.freeReads := rfl

end Sys2Proof.Machine
end

