-- ==== Sys2Proof/Laws/Tab.lean ====
section
/-! SUPPORT. What the operations on tables do: reading after writing, mapping, and folding over indices. -/

namespace Sys2Proof.Machine

variable {α β σ : Type} {n : Nat}

theorem Tab.get?_put (v : Vector (Option α) n) (i j : Nat) (x : Option α) :
    Tab.get? (Tab.put v i x) j = if i = j ∧ i < n then x else Tab.get? v j := by
  simp only [Tab.get?, Tab.put]
  by_cases hij : i = j
  · subst hij
    by_cases hi : i < n <;> simp [hi]
  · simp [hij]

theorem Tab.getD_put (v : Vector α n) (i j : Nat) (x y : α) :
    Tab.getD (Tab.put v i x) j y = if i = j ∧ i < n then x else Tab.getD v j y := by
  simp only [Tab.getD, Tab.put]
  by_cases hij : i = j
  · subst hij
    by_cases hi : i < n <;> simp [hi]
  · simp [hij]

theorem Tab.get?_lt {v : Vector (Option α) n} {i : Nat} {x : α} (h : Tab.get? v i = some x) : i < n := by
  by_contra hi
  simp [Tab.get?, hi] at h

theorem Tab.get?_upd (v : Vector (Option α) n) (i j : Nat) (f : α → α) :
    Tab.get? (Tab.upd v i f) j = if i = j then (Tab.get? v j).map f else Tab.get? v j := by
  unfold Tab.upd
  rw [Tab.get?_put]
  by_cases hij : i = j
  · subst hij
    by_cases hi : i < n
    · simp [hi]
    · simp [hi, Tab.get?]
  · simp [hij]

theorem Tab.getElem?_map (f : α → β) (v : Vector α n) (i : Nat) : (Tab.map f v)[i]? = v[i]?.map f := by
  simp only [Tab.map]
  by_cases hi : i < n
  · rw [Vector.getElem?_eq_getElem hi, Vector.getElem?_eq_getElem hi]
    simp
  · simp [hi]

theorem Tab.getElem?_build (f : Nat → α) (i : Nat) : (Tab.build n f)[i]? = if i < n then some (f i) else none := by
  simp only [Tab.build]
  by_cases hi : i < n
  · rw [Vector.getElem?_eq_getElem hi]
    simp [hi]
  · simp [hi]

theorem Tab.get?_map (f : α → β) (v : Vector (Option α) n) (i : Nat) :
    Tab.get? (Tab.map (Option.map f) v) i = (Tab.get? v i).map f := by
  simp only [Tab.get?, Tab.getElem?_map]
  cases v[i]? with
  | none => rfl
  | some o => rfl

theorem Tab.getD_map (f : α → β) (v : Vector α n) (i : Nat) (x : α) :
    Tab.getD (Tab.map f v) i (f x) = f (Tab.getD v i x) := by
  simp only [Tab.getD, Tab.getElem?_map]
  cases v[i]? with
  | none => rfl
  | some o => rfl

theorem Tab.get?_build (f : Nat → Option α) (i : Nat) :
    Tab.get? (Tab.build n f) i = if i < n then f i else none := by
  simp only [Tab.get?, Tab.getElem?_build]
  split <;> rfl

theorem Tab.getD_build (f : Nat → α) (i : Nat) (x : α) :
    Tab.getD (Tab.build n f) i x = if i < n then f i else x := by
  simp only [Tab.getD, Tab.getElem?_build]
  split <;> rfl

/-- Two tables with the same reading at every index are the same. -/
theorem Tab.ext {v w : Vector α n} (h : ∀ i, i < n → v[i]? = w[i]?) : v = w := by
  apply Vector.ext
  intro i hi
  have := h i hi
  rw [Vector.getElem?_eq_getElem hi, Vector.getElem?_eq_getElem hi] at this
  exact Option.some.inj this

/-- Writing what a view does not see leaves the view. -/
theorem Tab.map_put (f : α → β) (v : Vector α n) (i : Nat) (x : α) (h : ∀ y, v[i]? = some y → f x = f y) :
    Tab.map f (Tab.put v i x) = Tab.map f v := by
  apply Tab.ext
  intro j hj
  rw [Tab.getElem?_map, Tab.getElem?_map]
  simp only [Tab.put]
  by_cases hij : i = j
  · subst hij
    rw [Vector.getElem?_setIfInBounds_self]
    simp only [hj, if_true]
    rw [Vector.getElem?_eq_getElem hj]
    simp [h v[i] (Vector.getElem?_eq_getElem hj)]
  · rw [Vector.getElem?_setIfInBounds_ne hij]

/-- The same for a table of optional records. -/
theorem Tab.map_put_some (f : α → β) (v : Vector (Option α) n) (i : Nat) (x y : α)
    (hy : Tab.get? v i = some y) (h : f x = f y) :
    Tab.map (Option.map f) (Tab.put v i (some x)) = Tab.map (Option.map f) v := by
  apply Tab.map_put
  intro o ho
  simp only [Tab.get?, ho] at hy
  have : o = some y := hy
  simp [this, h]

/-- The same for a change of a loaded record. -/
theorem Tab.map_upd (f : α → β) (v : Vector (Option α) n) (i : Nat) (g : α → α)
    (h : ∀ y, Tab.get? v i = some y → f (g y) = f y) :
    Tab.map (Option.map f) (Tab.upd v i g) = Tab.map (Option.map f) v := by
  apply Tab.map_put
  intro o ho
  have hg : Tab.get? v i = o := by simp [Tab.get?, ho]
  rw [hg]
  cases o with
  | none => rfl
  | some y => simp [h y hg]

/-- The same for a change of every record. -/
theorem Tab.map_map (f : β → σ) (g : α → β) (v : Vector α n) : Tab.map f (Tab.map g v) = Tab.map (f ∘ g) v := by
  apply Tab.ext
  intro i _
  simp [Tab.getElem?_map]

/-- A fold over indices keeps what each step keeps. -/
theorem forEach_keeps (P : σ → Prop) (m : Nat) (f : Nat → σ → σ) (s : σ) (hs : P s) (h : ∀ i t, P t → P (f i t)) :
    P (forEach m f s) := by
  unfold forEach
  generalize List.range m = l
  induction l generalizing s with
  | nil => exact hs
  | cons i l ih => exact ih (f i s) (h i s hs)

theorem forList_keeps (P : σ → Prop) (l : List Nat) (f : Nat → σ → σ) (s : σ) (hs : P s) (h : ∀ i t, P t → P (f i t)) :
    P (forList l f s) := by
  unfold forList
  induction l generalizing s with
  | nil => exact hs
  | cons i l ih => exact ih (f i s) (h i s hs)

/-- A fold over indices leaves what each step leaves. -/
theorem forEach_same {τ : Type} (g : σ → τ) (m : Nat) (f : Nat → σ → σ) (s : σ) (h : ∀ i t, g (f i t) = g t) :
    g (forEach m f s) = g s :=
  forEach_keeps (fun t => g t = g s) m f s rfl fun i t ht => (h i t).trans ht

theorem forList_same {τ : Type} (g : σ → τ) (l : List Nat) (f : Nat → σ → σ) (s : σ) (h : ∀ i t, g (f i t) = g t) :
    g (forList l f s) = g s :=
  forList_keeps (fun t => g t = g s) l f s rfl fun i t ht => (h i t).trans ht

/-- The lowest index that satisfies `p`, from `lo` on. -/
theorem firstFrom_some {m lo i : Nat} {p : Nat → Bool} (h : firstFrom m lo p = some i) :
    i < m ∧ lo ≤ i ∧ p i = true := by
  unfold firstFrom at h
  have hp := List.find?_some h
  have hm := List.mem_of_find?_eq_some h
  simp at hp hm
  exact ⟨hm, hp.1, hp.2⟩

end Sys2Proof.Machine
end

