-- ==== Sys2Proof/Laws/Base.lean ====
section
/-! SUPPORT. What the end of an event can do: it never moves the base of the device (`Device.base`). One lemma for each
operation of the reactions, and one for `Device.finish`. -/

namespace Sys2Proof.Machine

/-! ### The link controller -/

@[simp] theorem Link.queue_base (l : Link) (r : Report) : (l.queue r).base = l.base := by
  unfold Link.queue; split_ifs <;> rfl

@[simp] theorem Link.transmit_base (l : Link) : l.transmit.base = l.base := by
  unfold Link.transmit; split <;> rfl

theorem Device.updLink_base (d : Device) (f : Link → Link) (h : (f d.link).base = d.link.base) :
    (d.updLink f).base = d.base := by
  unfold Device.base; simp [h, Device.updLink]

@[simp] theorem Device.report_base (d : Device) (c : ReportClass) (o : Nat) (x : ReportState) :
    (d.report c o x).base = d.base := Device.updLink_base d _ (Link.queue_base _ _)

@[simp] theorem Device.transmit_base (d : Device) : d.transmit.base = d.base :=
  Device.updLink_base d _ (Link.transmit_base _)

@[simp] theorem Device.reply_base (d : Device) (k : Byte) (h : Header) (s : Status) (c : Content) :
    (d.reply k h s c).base = d.base := Device.updLink_base d _ rfl

/-! ### One record -/

theorem Device.putDoor_base (d : Device) (n : Nat) (r x : Door) (h : d.door? n = some x) (hb : r.base = x.base) :
    (d.putDoor n r).base = d.base := by
  simp only [Device.base, Device.putDoor, Tab.map_put_some Door.base d.doors n r x h hb]

theorem Device.updDoor_base (d : Device) (n : Nat) (f : Door → Door) (h : ∀ x, (f x).base = x.base) :
    (d.updDoor n f).base = d.base := by
  simp only [Device.base, Device.updDoor, Tab.map_upd Door.base d.doors n f fun y _ => h y]

theorem Device.putZone_base (d : Device) (z : Nat) (r x : Zone) (h : d.zone? z = some x) (hb : r.base = x.base) :
    (d.putZone z r).base = d.base := by
  simp only [Device.base, Device.putZone, Tab.map_put_some Zone.base d.zones z r x h hb]

theorem Device.putRule_base (d : Device) (e : Nat) (r x : Rule) (h : d.rule? e = some x) (hb : r.base = x.base) :
    (d.putRule e r).base = d.base := by
  simp only [Device.base, Device.putRule, Tab.map_put_some Rule.base d.rules e r x h hb]

theorem Device.putSign_base (d : Device) (n : Nat) (r x : Sign) (h : d.sign? n = some x) (hb : r.base = x.base) :
    (d.putSign n r).base = d.base := by
  simp only [Device.base, Device.putSign, Tab.map_put_some Sign.base d.signs n r x h hb]

@[simp] theorem Device.putSounder_base (d : Device) (c : Nat) (r : Sounder) : (d.putSounder c r).base = d.base := rfl

theorem Device.putGroup_base (d : Device) (g : Nat) (r : Group) (h : r.testLength = (d.group g).testLength) :
    (d.putGroup g r).base = d.base := by
  simp only [Device.base, Device.putGroup]
  congr 1
  apply Tab.map_put
  intro y hy
  simp [h, Device.group, Tab.getD, hy]

/-! ### Sounders, route engine, signs -/

@[simp] theorem Device.changeSounder_base (d : Device) (c : Nat) (st : SounderState) : (d.changeSounder c st).base = d.base := by
  simp [Device.changeSounder]

@[simp] theorem Device.requestSounder_base (d : Device) (c : Nat) (on : Bool) : (d.requestSounder c on).base = d.base := by
  unfold Device.requestSounder
  simp only
  split_ifs <;> simp

@[simp] theorem Device.blankInto_base (d : Device) (b : Block) : (d.blankInto b).base = d.base := by
  simp only [Device.base, Device.blankInto, Tab.map_map]
  congr 2
  funext o
  cases o <;> rfl

@[simp] theorem Device.clearBlanks_base (d : Device) : d.clearBlanks.base = d.base := by
  simp only [Device.base, Device.clearBlanks, Tab.map_map]
  congr 2
  funext o
  cases o <;> rfl

theorem Device.route_base (d : Device) (r : RouteEngine)
    (h : { r with engine := Engine.idle, rerun := false, stale := false } =
      { d.route with engine := Engine.idle, rerun := false, stale := false }) : ({ d with route := r }).base = d.base := by
  simp only [Device.base]
  rw [h]

@[simp] theorem Device.trigger_base (d : Device) (b : Option Block) : (d.trigger b).base = d.base := by
  unfold Device.trigger
  split_ifs
  · have h : ({ d with route := d.route.trigger b.isSome }).base = d.base := by
      apply Device.route_base
      unfold RouteEngine.trigger
      split <;> rfl
    cases b with
    | none => simpa using h
    | some b => simpa using h
  · rfl

@[simp] theorem Device.takeSnapshot_base (d : Device) : d.takeSnapshot.base = d.base := by
  unfold Device.takeSnapshot
  split
  · exact Device.route_base d _ rfl
  · rfl

@[simp] theorem Device.sendEarly_base (d : Device) (n : Nat) : (d.sendEarly n).base = d.base := rfl
@[simp] theorem Device.exchangeEarly_base (d : Device) (n : Nat) : (d.exchangeEarly n).base = d.base := rfl

@[simp] theorem Device.settleSign_base (n : Nat) (d : Device) : (d.settleSign n).base = d.base := by
  unfold Device.settleSign
  split
  · rfl
  · rename_i r h
    split_ifs
    · rfl
    · rw [Device.sendEarly_base]
      exact Device.putSign_base d n _ r h rfl

@[simp] theorem Device.settleSigns_base (d : Device) : d.settleSigns.base = d.base :=
  forEach_same Device.base 64 _ d fun i t => Device.settleSign_base i t

@[simp] theorem Device.changeGroup_base (d : Device) (g : Nat) (st : GroupState) : (d.changeGroup g st).base = d.base := by
  unfold Device.changeGroup
  rw [Device.report_base]
  exact Device.putGroup_base d g _ rfl

@[simp] theorem Device.endTests_base (d : Device) : d.endTests.base = d.base := by
  refine forEach_same Device.base 8 _ d fun i t => ?_
  split_ifs <;> simp

@[simp] theorem Device.settleTests_base (d : Device) : d.settleTests.base = d.base := by
  unfold Device.settleTests; split_ifs <;> simp

/-! ### Doors -/

@[simp] theorem Device.changeCondition_base (d : Device) (n : Nat) (c : DoorCondition) : (d.changeCondition n c).base = d.base := by
  unfold Device.changeCondition
  split
  · rfl
  · rename_i r h
    split_ifs
    · rfl
    · rw [Device.report_base]
      exact Device.putDoor_base d n _ r h rfl

@[simp] theorem Device.startLocking_base (d : Device) (n : Nat) : (d.startLocking n).base = d.base := by
  unfold Device.startLocking
  rw [Device.changeCondition_base]
  exact Device.updDoor_base d n _ fun _ => rfl

@[simp] theorem Device.startHeld_base (d : Device) (n : Nat) : (d.startHeld n).base = d.base :=
  Device.updDoor_base d n _ fun _ => rfl

@[simp] theorem Device.judgeDrive_base (d : Device) (n : Nat) (r : Door) (v : Drive) : (d.judgeDrive n r v).base = d.base := by
  have h1 : (d.updDoor n fun r => { r with confirm := none, held := none }).base = d.base :=
    Device.updDoor_base d n _ fun _ => rfl
  have h2 : (d.updDoor n fun r => { r with held := none }).base = d.base := Device.updDoor_base d n _ fun _ => rfl
  cases v
  · unfold Device.judgeDrive Device.driveLocks; simp only; split <;> simp
  · unfold Device.judgeDrive Device.driveUnlocks; simp only; split <;> simp [h1]
  · unfold Device.judgeDrive Device.driveHolds; simp only; split <;> simp [h2]
  · unfold Device.judgeDrive Device.driveCloses; simp only; split <;> simp

@[simp] theorem Device.recompute_base (d : Device) (n : Nat) : (d.recompute n).base = d.base := by
  unfold Device.recompute
  split
  · rfl
  · rename_i r h
    have hp (v : Drive) (l : Level) : (d.putDoor n { r with drive := v, level := l }).base = d.base :=
      Device.putDoor_base d n _ r h rfl
    simp only
    split_ifs <;> simp [hp]

/-- Demands that differ in LIFE, RULE and INTRUSION alone are set within the base (R83). -/
theorem Device.setDemands_base (d : Device) (n : Nat) (m : Demands)
    (h : ∀ r, d.door? n = some r → m.station = r.demands.station ∧ m.timetable = r.demands.timetable) :
    (d.setDemands n m).base = d.base := by
  unfold Device.setDemands
  split
  · rfl
  · rename_i r hr
    obtain ⟨h1, h2⟩ := h r hr
    split_ifs
    · rfl
    · rw [Device.recompute_base]
      refine Device.putDoor_base d n _ r hr ?_
      simp [Door.base, h1, h2]

@[simp] theorem Device.settleDoor_base (n : Nat) (d : Device) : (d.settleDoor n).base = d.base := by
  unfold Device.settleDoor
  split
  · rfl
  · rename_i r hr
    refine Device.setDemands_base d n _ fun x hx => ?_
    cases hr.symm.trans hx
    exact ⟨rfl, rfl⟩

@[simp] theorem Device.settleDoors_base (d : Device) : d.settleDoors.base = d.base :=
  forEach_same Device.base 32 _ d fun i t => Device.settleDoor_base i t

/-! ### Calls -/

@[simp] theorem Device.reportCall_base (d : Device) (c : Call) (v : CallView) : (d.reportCall c v).base = d.base := by
  simp [Device.reportCall]

/-- Judging a priority again changes no more than the priority and WAITING into ESCALATED (R130, R131). -/
theorem Device.rejudge_base (d : Device) (c : Call) : (d.rejudge c).base = c.base := by
  cases c with
  | mk number point zone kind arrival priority state repeats =>
    unfold Device.rejudge
    cases state <;> simp only <;> split_ifs <;> rfl

@[simp] theorem Device.settleCalls_base (d : Device) : d.settleCalls.base = d.base := by
  unfold Device.settleCalls
  simp only
  rw [forEach_same Device.base 256]
  · simp only [Device.base, List.map_map]
    congr 2
    apply List.map_congr_left
    intro c _
    exact Device.rejudge_base d c
  · intro i t
    split <;> simp

@[simp] theorem Device.settleCallFlags_base (z : Nat) (d : Device) : (d.settleCallFlags z).base = d.base := by
  unfold Device.settleCallFlags
  split
  · rfl
  · rename_i r h
    simp only
    split_ifs
    · rfl
    · rw [Device.report_base]
      exact Device.putZone_base d z _ r h rfl

@[simp] theorem Device.settleAllCallFlags_base (d : Device) : d.settleAllCallFlags.base = d.base :=
  forEach_same Device.base 48 _ d fun i t => Device.settleCallFlags_base i t

/-! ### The rule table -/

@[simp] theorem Device.actOn_base (d : Device) (t : Target) (x : Asked) : (d.actOn t x).base = d.base := by
  unfold Device.actOn
  cases t with
  | door n =>
    simp only
    split
    · rfl
    · rename_i r hr
      refine Device.setDemands_base d n _ fun y hy => ?_
      cases hr.symm.trans hy
      exact ⟨rfl, rfl⟩
  | sounder c => simp
  | relay k =>
    simp only
    split_ifs
    · rfl
    · rw [Device.report_base]; rfl
  | avoid z =>
    simp only
    split
    · rfl
    · rename_i r h
      split_ifs
      · rfl
      all_goals
        rw [Device.trigger_base, Device.report_base]
        exact Device.putZone_base d z _ r h rfl

@[simp] theorem Device.applyOutcome_base (final : Vector (Option Rule) 128) (e : Nat) (d : Device) :
    (d.applyOutcome final e).base = d.base := by
  unfold Device.applyOutcome
  split
  · rename_i r f h _
    have hp : (d.putRule e { r with outcome := f.outcome }).base = d.base := Device.putRule_base d e _ r h rfl
    simp only
    split_ifs <;> simp [hp]
  · rfl

@[simp] theorem Device.applyOutcomes_base (d : Device) (final : Vector (Option Rule) 128) :
    (d.applyOutcomes final).base = d.base :=
  forEach_same Device.base 128 _ d fun i t => Device.applyOutcome_base final i t

@[simp] theorem Device.settleRules_base (d d0 : Device) (fresh : Bool) : (d.settleRules d0 fresh).base = d.base := by
  simp [Device.settleRules]

/-! ### The end of an event -/

/-- The reactions of RUNNING never move the base. -/
@[simp] theorem Device.react_base (d d0 : Device) (fresh : Bool) : (d.react d0 fresh).base = d.base := by
  simp [Device.react]

/-- The end of an event never moves the base. -/
@[simp] theorem Device.finish_base (d d0 : Device) (fresh : Bool) : (d.finish d0 fresh).base = d.base := by
  unfold Device.finish; split_ifs <;> simp

/-- An event that occurs leaves the base that its own change gives; one that does not occur changes nothing. -/
theorem Device.event_base (d : Device) (occurs : Bool) (f : Device → Device) :
    (d.event occurs f).base = if d.up && occurs then (f d).base else d.base := by
  unfold Device.event; split_ifs <;> simp

theorem Device.eventAlone_base (d : Device) (occurs : Bool) (f : Device → Device) :
    (d.eventAlone occurs f).base = if d.up && occurs then (f d).base else d.base := by
  unfold Device.eventAlone; split_ifs <;> simp

end Sys2Proof.Machine
end

