-- ==== Sys2Proof/Laws/Link.lean ====
section
/-! SUPPORT. What the link controller can do with a complete frame, one lemma for each outcome of R172 and R173, and that
the reactions at the end of an event never touch the reply list or the frame on the line. -/

namespace Sys2Proof.Machine

/-! ### The outcomes of a complete frame -/

theorem Device.request_down (d : Device) (g : Gate) (h : Header) (body : List Byte) (f : Option Nat → Device → Answer)
    (hu : d.up = false) : d.request g h body f = d := by
  simp [Device.request, hu]

theorem Device.request_discards (d : Device) (g : Gate) (h : Header) (body : List Byte) (f : Option Nat → Device → Answer)
    (hu : d.up = true) (hd : d.link.discards = true) : d.request g h body f = d.updLink Link.hunted := by
  have : d.link.hunted.discards = true := hd
  simp [Device.request, hu, this]

theorem Device.request_busy (d : Device) (g : Gate) (h : Header) (body : List Byte) (f : Option Nat → Device → Answer)
    (hu : d.up = true) (hd : d.link.discards = false) (hc : d.link.commit ≠ none) (hg : g.duringCommit = false) :
    d.request g h body f = (d.updLink Link.hunted).answered g.code h .busy := by
  have h1 : d.link.hunted.discards = false := hd
  have h2 : d.link.hunted.commit.isSome = true := by
    have : d.link.hunted.commit = d.link.commit := rfl
    rw [this]; exact Option.isSome_iff_ne_none.mpr hc
  simp [Device.request, hu, h1, h2, hg, Answer.deliver, Device.refuse, Device.answered]

/-- The frame passes the commit check: none is in flight, or the kind is judged meanwhile. -/
def Device.passes (d : Device) (g : Gate) : Prop :=
  d.up = true ∧ d.link.discards = false ∧ (d.link.commit = none ∨ g.duringCommit = true)

theorem Device.request_passes (d : Device) (g : Gate) (h : Header) (body : List Byte) (f : Option Nat → Device → Answer)
    (hp : d.passes g) : d.request g h body f = ((d.updLink Link.hunted).take g h body f).deliver g.code h := by
  obtain ⟨hu, hd, hc⟩ := hp
  have h1 : d.link.hunted.discards = false := hd
  have h2 : (d.link.hunted.commit.isSome && !g.duringCommit) = false := by
    have : d.link.hunted.commit = d.link.commit := rfl
    rw [this]
    rcases hc with hc | hc <;> simp [hc]
  simp [Device.request, hu, h1, h2]

theorem Device.request_badStation (d : Device) (g : Gate) (h : Header) (body : List Byte) (f : Option Nat → Device → Answer)
    (hp : d.passes g) (hs : slotOf h.station = none) :
    d.request g h body f = (d.updLink Link.hunted).answered g.code h .badStation := by
  simp [Device.request_passes d g h body f hp, Device.take, hs, Answer.deliver, Device.refuse, Device.answered]

theorem Device.request_badLength (d : Device) (g : Gate) (h : Header) (body : List Byte) (f : Option Nat → Device → Answer)
    (k : Nat) (hp : d.passes g) (hs : slotOf h.station = some k) (hb : body.length ∉ g.lengths) :
    d.request g h body f = (d.updLink Link.hunted).answered g.code h .badValue := by
  simp [Device.request_passes d g h body f hp, Device.take, hs, hb, Answer.deliver, Device.refuse, Device.answered]

theorem Device.request_autonomous (d : Device) (g : Gate) (h : Header) (body : List Byte) (f : Option Nat → Device → Answer)
    (k : Nat) (hp : d.passes g) (hs : slotOf h.station = some k) (hb : body.length ∈ g.lengths) (ha : d.isAutonomous = true)
    (hg : g.inAutonomous = false) : d.request g h body f = (d.heard k).answered g.code h .autonomous := by
  have h1 : (((d.updLink Link.hunted).updLink fun l => l.consume k)).isAutonomous = true := ha
  simp only [Device.request_passes d g h body f hp, Device.take, hs, hb, not_true, if_false, h1, hg]
  rfl

/-- A request that is taken and judged by its own rule (R172 step 7), given the slot's count (R178). -/
theorem Device.request_taken (d : Device) (g : Gate) (h : Header) (body : List Byte) (f : Option Nat → Device → Answer)
    (k : Nat) (hp : d.passes g) (hs : slotOf h.station = some k) (hb : body.length ∈ g.lengths)
    (ha : d.isAutonomous = false ∨ g.inAutonomous = true) :
    d.request g h body f = (f (d.slot k) (d.heard k)).deliver g.code h := by
  have h1 : (((d.updLink Link.hunted).updLink fun l => l.consume k)).isAutonomous = d.isAutonomous := rfl
  have h2 : (d.isAutonomous && !g.inAutonomous) = false := by rcases ha with ha | ha <;> simp [ha]
  simp only [Device.request_passes d g h body f hp, Device.take, hs, hb, not_true, if_false, h1, h2]
  rfl

theorem Device.listens.passes {d : Device} {h : Header} {k : Nat} (hl : d.listens h k) (g : Gate) : d.passes g :=
  ⟨hl.1, hl.2.1, .inl hl.2.2.1⟩

/-- An answer with a reply is the device answered. -/
@[simp] theorem Answer.deliver_some (d : Device) (st : Status) (c : Content) (code : Byte) (h : Header) :
    (Answer.mk d (some (st, c))).deliver code h = d.answered code h st c := rfl

@[simp] theorem Answer.deliver_none (d : Device) (code : Byte) (h : Header) :
    (Answer.mk d none).deliver code h = d.transmit := rfl

/-! ### The reply list and the line -/

/-- The frame on the line and the reply list. -/
def Device.wire (d : Device) : Option TxFrame × List Reply := (d.link.tx, d.link.replies)

theorem Link.queue_wire (l : Link) (r : Report) : (l.queue r).tx = l.tx ∧ (l.queue r).replies = l.replies := by
  unfold Link.queue; split_ifs <;> exact ⟨rfl, rfl⟩

@[simp] theorem Device.report_wire (d : Device) (c : ReportClass) (o : Nat) (x : ReportState) :
    (d.report c o x).wire = d.wire := by
  simp [Device.wire, Device.report, Link.queue_wire]

/-- A change that leaves the link controller alone leaves the wire alone. -/
theorem Device.wire_of_link {d e : Device} (h : e.link = d.link) : e.wire = d.wire := by simp [Device.wire, h]

@[simp] theorem Device.trigger_wire (d : Device) (b : Option Block) : (d.trigger b).wire = d.wire := by
  unfold Device.trigger
  split_ifs
  · cases b <;> rfl
  · rfl

@[simp] theorem Device.changeSounder_wire (d : Device) (c : Nat) (st : SounderState) : (d.changeSounder c st).wire = d.wire := by
  simp only [Device.changeSounder, Device.report_wire]; rfl

@[simp] theorem Device.requestSounder_wire (d : Device) (c : Nat) (on : Bool) : (d.requestSounder c on).wire = d.wire := by
  have h (r : Sounder) : (d.putSounder c r).wire = d.wire := rfl
  unfold Device.requestSounder
  simp only
  split_ifs <;> simp [h]

@[simp] theorem Device.settleSign_wire (n : Nat) (d : Device) : (d.settleSign n).wire = d.wire := by
  unfold Device.settleSign
  split
  · rfl
  · split_ifs <;> rfl

@[simp] theorem Device.settleSigns_wire (d : Device) : d.settleSigns.wire = d.wire :=
  forEach_same Device.wire 64 _ d fun i t => Device.settleSign_wire i t

@[simp] theorem Device.changeGroup_wire (d : Device) (g : Nat) (st : GroupState) : (d.changeGroup g st).wire = d.wire := by
  simp only [Device.changeGroup, Device.report_wire]; rfl

@[simp] theorem Device.endTests_wire (d : Device) : d.endTests.wire = d.wire := by
  refine forEach_same Device.wire 8 _ d fun i t => ?_
  split_ifs <;> simp

@[simp] theorem Device.changeCondition_wire (d : Device) (n : Nat) (c : DoorCondition) : (d.changeCondition n c).wire = d.wire := by
  unfold Device.changeCondition
  split
  · rfl
  · split_ifs
    · rfl
    · simp only [Device.report_wire]; rfl

@[simp] theorem Device.judgeDrive_wire (d : Device) (n : Nat) (r : Door) (v : Drive) : (d.judgeDrive n r v).wire = d.wire := by
  have h0 (f : Door → Door) : (d.updDoor n f).wire = d.wire := rfl
  have h1 : (d.startHeld n).wire = d.wire := rfl
  have h2 : (d.startLocking n).wire = d.wire := by simp [Device.startLocking, h0]
  cases v
  · unfold Device.judgeDrive Device.driveLocks; simp only; split <;> simp [h1, h2]
  · unfold Device.judgeDrive Device.driveUnlocks; simp only; split <;> simp [h0]
  · unfold Device.judgeDrive Device.driveHolds; simp only; split <;> simp [h0]
  · unfold Device.judgeDrive Device.driveCloses; simp only; split <;> simp [h1]

@[simp] theorem Device.recompute_wire (d : Device) (n : Nat) : (d.recompute n).wire = d.wire := by
  have hp (r : Door) : (d.putDoor n r).wire = d.wire := rfl
  have he (e : Device) : (e.exchangeEarly n).wire = e.wire := rfl
  unfold Device.recompute
  split
  · rfl
  · simp only
    split_ifs <;> simp [hp, he]

@[simp] theorem Device.setDemands_wire (d : Device) (n : Nat) (m : Demands) : (d.setDemands n m).wire = d.wire := by
  have hp (r : Door) : (d.putDoor n r).wire = d.wire := rfl
  unfold Device.setDemands
  split
  · rfl
  · split_ifs <;> simp [hp]

@[simp] theorem Device.settleDoors_wire (d : Device) : d.settleDoors.wire = d.wire := by
  refine forEach_same Device.wire 32 _ d fun i t => ?_
  unfold Device.settleDoor
  split <;> simp

@[simp] theorem Device.settleCalls_wire (d : Device) : d.settleCalls.wire = d.wire := by
  unfold Device.settleCalls
  simp only
  rw [forEach_same Device.wire 256]
  · rfl
  · intro i t
    split <;> simp [Device.reportCall]

@[simp] theorem Device.settleAllCallFlags_wire (d : Device) : d.settleAllCallFlags.wire = d.wire := by
  refine forEach_same Device.wire 48 _ d fun i t => ?_
  unfold Device.settleCallFlags
  split
  · rfl
  · simp only
    split_ifs
    · rfl
    · simp only [Device.report_wire]; rfl

@[simp] theorem Device.actOn_wire (d : Device) (t : Target) (x : Asked) : (d.actOn t x).wire = d.wire := by
  unfold Device.actOn
  cases t with
  | door n => simp only; split <;> simp
  | sounder c => simp
  | relay k =>
    simp only
    split_ifs
    · rfl
    · simp only [Device.report_wire]; rfl
  | avoid z =>
    have hp (r : Zone) : (d.putZone z r).wire = d.wire := rfl
    simp only
    split
    · rfl
    · split_ifs <;> simp [hp]

@[simp] theorem Device.applyOutcomes_wire (d : Device) (final : Vector (Option Rule) 128) :
    (d.applyOutcomes final).wire = d.wire := by
  refine forEach_same Device.wire 128 _ d fun i t => ?_
  have hp (r : Rule) : (t.putRule i r).wire = t.wire := rfl
  unfold Device.applyOutcome
  split
  · simp only
    split_ifs <;> simp [hp]
  · rfl

/-- The end of an event touches neither the reply list nor the frame on the line. -/
@[simp] theorem Device.finish_wire (d d0 : Device) (fresh : Bool) : (d.finish d0 fresh).wire = d.wire := by
  have ht (e : Device) : e.takeSnapshot.wire = e.wire := by unfold Device.takeSnapshot; split <;> rfl
  have hs (e : Device) : e.settleTests.wire = e.wire := by unfold Device.settleTests; split_ifs <;> simp
  unfold Device.finish
  split_ifs
  · simp [Device.react, ht, hs, Device.settleRules]
  · simp

/-- A device whose wire is that of `a` answers a request of `a` (R173). -/
theorem Device.answered_of_wire (a d : Device) (kind : Byte) (h : Header) (st : Status) (c : Content) (hw : d.wire = a.wire) :
    Answered a (d.answered kind h st c) { kind := replyKind kind, header := h, status := st, content := c } := by
  have h1 : d.link.tx = a.link.tx := congrArg Prod.fst hw
  have h2 : d.link.replies = a.link.replies := congrArg Prod.snd hw
  constructor
  · intro ht
    cases hx : a.link.tx with
    | none => exact absurd hx ht
    | some f => simp [Device.answered, Device.reply, Device.transmit, Device.updLink, Link.transmit, h1, h2, hx]
  · intro ht
    cases hr : a.link.replies with
    | nil => exact ⟨_, _, rfl, by simp [Device.answered, Device.reply, Device.transmit, Device.updLink, Link.transmit, h1, h2, ht, hr]⟩
    | cons q qs => exact ⟨_, _, rfl, by simp [Device.answered, Device.reply, Device.transmit, Device.updLink, Link.transmit, h1, h2, ht, hr]⟩

/-- Answering leaves the base. -/
@[simp] theorem Device.answered_base (d : Device) (kind : Byte) (h : Header) (st : Status) (c : Content) :
    (d.answered kind h st c).base = d.base := by simp [Device.answered]

end Sys2Proof.Machine
end

