-- ==== Sys2Proof/Laws/Parts.lean ====
section
/-! SUPPORT. What the smaller shared operations can do: the priority and kind of a call in the words of the statements,
the entry into a security state, the loss of supply or the hold of the reset input, and the lengths of the frames that the
FG640 sends. -/

namespace Sys2Proof.Machine

/-! ### Calls -/

theorem callKindOf_eq (k : PointKind) : callKindOf k = if k = .refuge then .refuge else .help := by
  cases k <;> rfl

theorem Device.priorityOf_eq_rank (d : Device) (kind : CallKind) (zone : Nat) : d.priorityOf kind zone = d.rank kind zone := by
  cases kind <;> simp [Device.priorityOf, Device.rank]

/-! ### Guarding (R66, R77) -/

/-- What entering a security state does: the state of the zone, and the report. -/
theorem Device.enterSecurity_of_loaded {d : Device} {z : Nat} {r : Zone} (h : d.zone? z = some r) (s : Security) :
    d.enterSecurity z s = (d.putZone z { r with security := s }).report .security z (.zoneSecurity s.view) := by
  simp only [Device.enterSecurity, h]

/-- A zone that is to have another of the six states enters it. -/
theorem Device.changeSecurity_of_differs {d : Device} {z : Nat} {r : Zone} {s : Security} (h : d.zone? z = some r)
    (hs : r.security.sameState s = false) : d.changeSecurity z s = d.enterSecurity z s := by
  simp [Device.changeSecurity, h, hs]

/-! ### Outputs off (R190) -/

/-- Every output is off and every line at rest, whatever the inputs then are. -/
theorem Device.outputsOff_offLaw (d : Device) (i : Inputs) : OffLaw { d.outputsOff with inputs := i } := by
  intro _
  refine ⟨rfl, rfl, fun l => ?_, rfl, rfl, fun c => ?_, fun k => ?_⟩
  · simp only [Device.loop, Device.outputsOff, Tab.getD, Tab.getElem?_map]
    cases d.loops[l]? <;> rfl
  · simp only [Device.sounder, Device.outputsOff, Tab.getD, Tab.getElem?_map]
    cases d.sounders[c]? <;> rfl
  · show Tab.getD (Vector.replicate 16 false) k false = false
    simp only [Tab.getD]
    by_cases h : k < 16 <;> simp [h]

/-! ### Frames (R171, R184) -/

theorem ReportState.bytes_length (x : ReportState) : x.bytes.length ≤ 32 := by
  simp [ReportState.bytes, stateMax]

theorem Content.bytes_length (c : Content) : c.bytes.length ≤ 249 := by
  cases c <;> simp [Content.bytes, bodyMax]

theorem TxFrame.body_length (f : TxFrame) : f.body.length ≤ 250 := by
  cases f with
  | reply r => have := r.content.bytes_length; simp [TxFrame.body, Reply.body]; omega
  | report r =>
    have := r.state.bytes_length
    simp [TxFrame.body, Report.body, Report.bodyHead, stampBytes]; omega

end Sys2Proof.Machine
end

