-- ==== Sys2Proof/Laws/PerInstr.lean ====
section
/-! SUPPORT. The family Frame, one lemma for each command: a well-formed request is the command of its own frame, and its
body fits one. -/

namespace Sys2Proof.Laws.Frame

/-- A command that is a frame (R171) fits one and is the command that its frame is read as (R172, R183, R184). -/
def Statement (i : Instr) : Prop :=
  ∀ kind h body, frameOf i = some (kind, h, body) → i.wellFormed = true → body.length ≤ 250 ∧ commandOf kind h body = i

/-- The body of a query row begins with the row's code (R183). -/
theorem head_of_queryFits {code : Nat} {body : List Byte} (h : queryFits code body = true) :
    body.length ≤ 250 ∧ body.head?.map BitVec.toNat = some code := by
  simpa [queryFits, bodyFits] using h

theorem pulseA (h : Header) (body : List Byte) : Statement (.pulseA h body) := by
  rintro _ _ _ ⟨⟩ hw
  exact ⟨of_decide_eq_true hw, rfl⟩

theorem pulseB (h : Header) (body : List Byte) : Statement (.pulseB h body) := by
  rintro _ _ _ ⟨⟩ hw
  exact ⟨of_decide_eq_true hw, rfl⟩

theorem superviseSet (h : Header) (body : List Byte) : Statement (.superviseSet h body) := by
  rintro _ _ _ ⟨⟩ hw
  exact ⟨of_decide_eq_true hw, rfl⟩

theorem resume (h : Header) (body : List Byte) : Statement (.resume h body) := by
  rintro _ _ _ ⟨⟩ hw
  exact ⟨of_decide_eq_true hw, rfl⟩

theorem restart (h : Header) (body : List Byte) : Statement (.restart h body) := by
  rintro _ _ _ ⟨⟩ hw
  exact ⟨of_decide_eq_true hw, rfl⟩

theorem range (h : Header) (body : List Byte) : Statement (.range h body) := by
  rintro _ _ _ ⟨⟩ hw
  exact ⟨of_decide_eq_true hw, rfl⟩

theorem reportMask (h : Header) (body : List Byte) : Statement (.reportMask h body) := by
  rintro _ _ _ ⟨⟩ hw
  exact ⟨of_decide_eq_true hw, rfl⟩

theorem queryPoint (h : Header) (body : List Byte) : Statement (.queryPoint h body) := by
  rintro _ _ _ ⟨⟩ hw
  have hq := head_of_queryFits hw
  exact ⟨hq.1, by change queryOf h body = _; simp [queryOf, hq.2]⟩

theorem queryZone (h : Header) (body : List Byte) : Statement (.queryZone h body) := by
  rintro _ _ _ ⟨⟩ hw
  have hq := head_of_queryFits hw
  exact ⟨hq.1, by change queryOf h body = _; simp [queryOf, hq.2]⟩

theorem queryDoor (h : Header) (body : List Byte) : Statement (.queryDoor h body) := by
  rintro _ _ _ ⟨⟩ hw
  have hq := head_of_queryFits hw
  exact ⟨hq.1, by change queryOf h body = _; simp [queryOf, hq.2]⟩

theorem queryCalls (h : Header) (body : List Byte) : Statement (.queryCalls h body) := by
  rintro _ _ _ ⟨⟩ hw
  have hq := head_of_queryFits hw
  exact ⟨hq.1, by change queryOf h body = _; simp [queryOf, hq.2]⟩

theorem queryPlan (h : Header) (body : List Byte) : Statement (.queryPlan h body) := by
  rintro _ _ _ ⟨⟩ hw
  have hq := head_of_queryFits hw
  exact ⟨hq.1, by change queryOf h body = _; simp [queryOf, hq.2]⟩

theorem querySign (h : Header) (body : List Byte) : Statement (.querySign h body) := by
  rintro _ _ _ ⟨⟩ hw
  have hq := head_of_queryFits hw
  exact ⟨hq.1, by change queryOf h body = _; simp [queryOf, hq.2]⟩

theorem queryRule (h : Header) (body : List Byte) : Statement (.queryRule h body) := by
  rintro _ _ _ ⟨⟩ hw
  have hq := head_of_queryFits hw
  exact ⟨hq.1, by change queryOf h body = _; simp [queryOf, hq.2]⟩

theorem queryStatus (h : Header) (body : List Byte) : Statement (.queryStatus h body) := by
  rintro _ _ _ ⟨⟩ hw
  simp only [Instr.wellFormed, statusQueryFits, bodyFits, Bool.and_eq_true, decide_eq_true_eq] at hw
  refine ⟨hw.1, ?_⟩
  cases body with
  | nil => rfl
  | cons c rest =>
    have hc : c.toNat = 7 ∨ 9 ≤ c.toNat := by simpa using hw.2
    change queryOf h (c :: rest) = _
    unfold queryOf
    simp only [List.head?_cons, Option.map_some]
    split <;> first | rfl | (rename_i e; simp only [Option.some.injEq] at e; omega)

theorem queryResetCause (h : Header) (body : List Byte) : Statement (.queryResetCause h body) := by
  rintro _ _ _ ⟨⟩ hw
  have hq := head_of_queryFits hw
  exact ⟨hq.1, by change queryOf h body = _; simp [queryOf, hq.2]⟩

theorem loadZone (h : Header) (body : List Byte) : Statement (.loadZone h body) := by
  rintro _ _ _ ⟨⟩ hw
  exact ⟨of_decide_eq_true hw, rfl⟩

theorem loadPoint (h : Header) (body : List Byte) : Statement (.loadPoint h body) := by
  rintro _ _ _ ⟨⟩ hw
  exact ⟨of_decide_eq_true hw, rfl⟩

theorem loadClass (h : Header) (body : List Byte) : Statement (.loadClass h body) := by
  rintro _ _ _ ⟨⟩ hw
  exact ⟨of_decide_eq_true hw, rfl⟩

theorem loadDoor (h : Header) (body : List Byte) : Statement (.loadDoor h body) := by
  rintro _ _ _ ⟨⟩ hw
  exact ⟨of_decide_eq_true hw, rfl⟩

theorem loadPassage (h : Header) (body : List Byte) : Statement (.loadPassage h body) := by
  rintro _ _ _ ⟨⟩ hw
  exact ⟨of_decide_eq_true hw, rfl⟩

theorem loadSign (h : Header) (body : List Byte) : Statement (.loadSign h body) := by
  rintro _ _ _ ⟨⟩ hw
  exact ⟨of_decide_eq_true hw, rfl⟩

theorem loadGroup (h : Header) (body : List Byte) : Statement (.loadGroup h body) := by
  rintro _ _ _ ⟨⟩ hw
  exact ⟨of_decide_eq_true hw, rfl⟩

theorem loadRule (h : Header) (body : List Byte) : Statement (.loadRule h body) := by
  rintro _ _ _ ⟨⟩ hw
  exact ⟨of_decide_eq_true hw, rfl⟩

theorem loadLimits (h : Header) (body : List Byte) : Statement (.loadLimits h body) := by
  rintro _ _ _ ⟨⟩ hw
  exact ⟨of_decide_eq_true hw, rfl⟩

theorem commit (h : Header) (body : List Byte) : Statement (.commit h body) := by
  rintro _ _ _ ⟨⟩ hw
  exact ⟨of_decide_eq_true hw, rfl⟩

theorem edit (h : Header) (body : List Byte) : Statement (.edit h body) := by
  rintro _ _ _ ⟨⟩ hw
  exact ⟨of_decide_eq_true hw, rfl⟩

theorem setRegime (h : Header) (body : List Byte) : Statement (.setRegime h body) := by
  rintro _ _ _ ⟨⟩ hw
  exact ⟨of_decide_eq_true hw, rfl⟩

theorem clearLatches (h : Header) (body : List Byte) : Statement (.clearLatches h body) := by
  rintro _ _ _ ⟨⟩ hw
  exact ⟨of_decide_eq_true hw, rfl⟩

theorem ackAlarm (h : Header) (body : List Byte) : Statement (.ackAlarm h body) := by
  rintro _ _ _ ⟨⟩ hw
  exact ⟨of_decide_eq_true hw, rfl⟩

theorem cancelVerify (h : Header) (body : List Byte) : Statement (.cancelVerify h body) := by
  rintro _ _ _ ⟨⟩ hw
  exact ⟨of_decide_eq_true hw, rfl⟩

theorem resetFire (h : Header) (body : List Byte) : Statement (.resetFire h body) := by
  rintro _ _ _ ⟨⟩ hw
  exact ⟨of_decide_eq_true hw, rfl⟩

theorem silence (h : Header) (body : List Byte) : Statement (.silence h body) := by
  rintro _ _ _ ⟨⟩ hw
  exact ⟨of_decide_eq_true hw, rfl⟩

theorem resound (h : Header) (body : List Byte) : Statement (.resound h body) := by
  rintro _ _ _ ⟨⟩ hw
  exact ⟨of_decide_eq_true hw, rfl⟩

theorem armZone (h : Header) (body : List Byte) : Statement (.armZone h body) := by
  rintro _ _ _ ⟨⟩ hw
  exact ⟨of_decide_eq_true hw, rfl⟩

theorem disarmZone (h : Header) (body : List Byte) : Statement (.disarmZone h body) := by
  rintro _ _ _ ⟨⟩ hw
  exact ⟨of_decide_eq_true hw, rfl⟩

theorem resetIntruder (h : Header) (body : List Byte) : Statement (.resetIntruder h body) := by
  rintro _ _ _ ⟨⟩ hw
  exact ⟨of_decide_eq_true hw, rfl⟩

theorem disablePoint (h : Header) (body : List Byte) : Statement (.disablePoint h body) := by
  rintro _ _ _ ⟨⟩ hw
  exact ⟨of_decide_eq_true hw, rfl⟩

theorem enablePoint (h : Header) (body : List Byte) : Statement (.enablePoint h body) := by
  rintro _ _ _ ⟨⟩ hw
  exact ⟨of_decide_eq_true hw, rfl⟩

theorem doorGuard (h : Header) (body : List Byte) : Statement (.doorGuard h body) := by
  rintro _ _ _ ⟨⟩ hw
  exact ⟨of_decide_eq_true hw, rfl⟩

theorem schedule (h : Header) (body : List Byte) : Statement (.schedule h body) := by
  rintro _ _ _ ⟨⟩ hw
  exact ⟨of_decide_eq_true hw, rfl⟩

theorem claimCall (h : Header) (body : List Byte) : Statement (.claimCall h body) := by
  rintro _ _ _ ⟨⟩ hw
  exact ⟨of_decide_eq_true hw, rfl⟩

theorem releaseCall (h : Header) (body : List Byte) : Statement (.releaseCall h body) := by
  rintro _ _ _ ⟨⟩ hw
  exact ⟨of_decide_eq_true hw, rfl⟩

theorem closeCall (h : Header) (body : List Byte) : Statement (.closeCall h body) := by
  rintro _ _ _ ⟨⟩ hw
  exact ⟨of_decide_eq_true hw, rfl⟩

theorem groupStop (h : Header) (body : List Byte) : Statement (.groupStop h body) := by
  rintro _ _ _ ⟨⟩ hw
  exact ⟨of_decide_eq_true hw, rfl⟩

theorem groupRun (h : Header) (body : List Byte) : Statement (.groupRun h body) := by
  rintro _ _ _ ⟨⟩ hw
  exact ⟨of_decide_eq_true hw, rfl⟩

theorem testStart (h : Header) (body : List Byte) : Statement (.testStart h body) := by
  rintro _ _ _ ⟨⟩ hw
  exact ⟨of_decide_eq_true hw, rfl⟩

theorem unknownKind (kind : Byte) (h : Header) (body : List Byte) : Statement (.unknownKind kind h body) := by
  rintro _ _ _ ⟨⟩ hw
  simp only [Instr.wellFormed, bodyFits, isRequestCode, Bool.and_eq_true, decide_eq_true_eq, Bool.not_eq_true',
    Bool.or_eq_false_iff, Bool.and_eq_false_iff, decide_eq_false_iff_not] at hw
  refine ⟨hw.1, ?_⟩
  unfold commandOf
  split <;> first | omega | rfl

theorem frameDiscard (bytes : List Byte) : Statement (.frameDiscard bytes) := nofun
theorem frameByteTimeout (bytes : List Byte) : Statement (.frameByteTimeout bytes) := nofun
theorem frameSent : Statement .frameSent := nofun
theorem commitCompletion : Statement .commitCompletion := nofun
theorem warmRestart : Statement .warmRestart := nofun
theorem powerOn : Statement .powerOn := nofun
theorem resetLine : Statement .resetLine := nofun
theorem mainsChange (failed : Bool) : Statement (.mainsChange failed) := nofun
theorem timeBaseTick : Statement .timeBaseTick := nofun
theorem supervisionExpiry : Statement .supervisionExpiry := nofun
theorem loopAnswer (loop : Nat) (code : Option PointKind) (reading : Byte) (tamper : Bool) : Statement (.loopAnswer loop code reading tamper) := nofun
theorem loopNoAnswer (loop : Nat) : Statement (.loopNoAnswer loop) := nofun
theorem fireTimerExpiry (zone : Nat) : Statement (.fireTimerExpiry zone) := nofun
theorem alarmHoldExpiry : Statement .alarmHoldExpiry := nofun
theorem exitDelayExpiry (zone : Nat) : Statement (.exitDelayExpiry zone) := nofun
theorem entryDelayExpiry (zone : Nat) : Statement (.entryDelayExpiry zone) := nofun
theorem stationDemandExpiry (door : Nat) : Statement (.stationDemandExpiry door) := nofun
theorem confirmTimerExpiry (door : Nat) : Statement (.confirmTimerExpiry door) := nofun
theorem heldTimerExpiry (door : Nat) : Statement (.heldTimerExpiry door) := nofun
theorem shuntTimerExpiry (door : Nat) : Statement (.shuntTimerExpiry door) := nofun
theorem nodeWatchExpiry (door : Nat) : Statement (.nodeWatchExpiry door) := nofun
theorem doorStatus (leaf : Leaf) (lock : LockPos) (rex : Bool) : Statement (.doorStatus leaf lock rex) := nofun
theorem doorExchangeUnanswered : Statement .doorExchangeUnanswered := nofun
theorem signSendComplete : Statement .signSendComplete := nofun
theorem ruleDelayExpiry (entry : Nat) : Statement (.ruleDelayExpiry entry) := nofun
theorem answerTimerExpiry (call : Nat) : Statement (.answerTimerExpiry call) := nofun
theorem stepTimerExpiry (group : Nat) : Statement (.stepTimerExpiry group) := nofun
theorem routePassCompletion : Statement .routePassCompletion := nofun
theorem supplyBelowWorkingLevel : Statement .supplyBelowWorkingLevel := nofun
theorem resetInputHeld : Statement .resetInputHeld := nofun

end Sys2Proof.Laws.Frame
end

