-- ==== Sys2Proof/Tests/Slice0.lean ====
section
/-! SUPPORT. The model's own tests: ill-formed commands, frames written out by hand, worked cases of the manual, and for
each obligation states and operands that meet its hypotheses. -/

namespace Sys2Proof.Tests

open Sys2Proof Sys2Proof.Machine

set_option Elab.async false

/-! ### Small states -/

/-- A header of a station, tag 0. -/
def hdr (station : Nat) : Header := ⟨BitVec.ofNat 8 station, 0⟩

/-- An empty device in COMMISSIONING with a free line, and one in RUNNING. -/
def idle : Device := {}
def run : Device := { link := { op := .running } }

/-- The device in AUTONOMOUS since second 5. -/
def alone (d : Device) : Device := d.withSup { d.sup with mode := .autonomous 5 }

/-- A state without waiting commands. -/
def at0 (d : Device) : State := ⟨d, []⟩

/-- The device that a command leaves. -/
def after (i : Instr) (d : Device) : Device :=
  match exec i (at0 d) with
  | .next t => t.dev
  | _ => d

/-- The frame on the free line after a command. -/
def sent (i : Instr) (d : Device) : Option (Status × Content) :=
  match (after i d).link.tx with
  | some (.reply r) => some (r.status, r.content)
  | _ => none

def gallery : Zone :=
  { kind := .gallery, verify := true, ackTime := 30, searchTime := 180, policy := .night, exitDelay := 30, entryDelay := 20 }

def egress : Door := { kind := .egress, zone := 2, nightLock := true, entryRoute := false, heldLimit := 30, drive := .lock }

def leafDoor : Door :=
  { kind := .fireLeaf, zone := 2, nightLock := false, entryRoute := false, heldLimit := 30, drive := .holdOpen }

def withZone (d : Device) (z : Nat) (r : Zone) : Device := d.putZone z r
def withDoor (d : Device) (n : Nat) (r : Door) : Device := d.putDoor n r

/-! ### Ill-formed commands (WellFormed) -/

theorem test_body_too_long : (Instr.silence (hdr 0) (List.replicate 251 0)).wellFormed = false := by decide +kernel
theorem test_body_fits : (Instr.silence (hdr 0) (List.replicate 250 0)).wellFormed = true := by decide +kernel
theorem test_query_other_code : (Instr.queryZone (hdr 0) [2, 0]).wellFormed = false := by decide +kernel
theorem test_query_no_code : (Instr.queryPoint (hdr 0) []).wellFormed = false := by decide +kernel
theorem test_status_query_of_point : (Instr.queryStatus (hdr 0) [0, 3]).wellFormed = false := by decide +kernel
theorem test_unknown_kind_known : (Instr.unknownKind 0x33 (hdr 0) []).wellFormed = false := by decide +kernel
theorem test_unknown_kind_unknown : (Instr.unknownKind 0x34 (hdr 0) []).wellFormed = true := by decide +kernel
theorem test_discard_no_start : (Instr.frameDiscard [0x00, 0x01]).wellFormed = false := by decide +kernel
theorem test_timeout_too_long : (Instr.frameByteTimeout (List.replicate 258 0xC5)).wellFormed = false := by decide +kernel
theorem test_loop_outside : (Instr.loopNoAnswer 4).wellFormed = false := by decide +kernel
theorem test_answer_absent : (Instr.loopAnswer 0 (some .absent) 0 false).wellFormed = false := by decide +kernel
theorem test_zone_outside : (Instr.fireTimerExpiry 48).wellFormed = false := by decide +kernel
theorem test_door_outside : (Instr.heldTimerExpiry 32).wellFormed = false := by decide +kernel
theorem test_entry_outside : (Instr.ruleDelayExpiry 128).wellFormed = false := by decide +kernel
theorem test_call_outside : (Instr.answerTimerExpiry 256).wellFormed = false := by decide +kernel
theorem test_group_outside : (Instr.stepTimerExpiry 8).wellFormed = false := by decide +kernel

/-! ### Frames (R171, R184): the check value of the CRC's catalogue, and frames computed outside the model -/

theorem test_crc_check_value : crc16 [0x31, 0x32, 0x33, 0x34, 0x35, 0x36, 0x37, 0x38, 0x39] = 0x29B1 := by decide +kernel

theorem test_frame_pulse : readFrame [0xC5, 0x00, 0x01, 0x00, 0x00, 0xB3, 0xF0] = some (.pulseA (hdr 0) []) := by
  decide +kernel

theorem test_frame_silence : readFrame [0xC5, 0x00, 0x25, 0x0F, 0x07, 0x89, 0x2F] = some (.silence ⟨15, 7⟩ []) := by
  decide +kernel

theorem test_frame_query_point :
    readFrame [0xC5, 0x02, 0x08, 0x02, 0x09, 0x00, 0xC8, 0xAC, 0xC0] = some (.queryPoint ⟨2, 9⟩ [0, 200]) := by
  decide +kernel

theorem test_frame_load_point :
    readFrame [0xC5, 0x05, 0x11, 0x0F, 0x01, 0xFF, 0x05, 0x2F, 0x07, 0x03, 0x3F, 0x79] =
      some (.loadPoint ⟨15, 1⟩ [0xFF, 0x05, 0x2F, 0x07, 0x03]) := by
  decide +kernel

theorem test_frame_schedule :
    readFrame [0xC5, 0x02, 0x2D, 0x03, 0x00, 0x1F, 0x04, 0x64, 0x8B] = some (.schedule (hdr 3) [0x1F, 0x04]) := by
  decide +kernel

theorem test_frame_bad_check : readFrame [0xC5, 0x00, 0x01, 0x00, 0x00, 0xB3, 0xF1] = none := by decide +kernel

/-- A frame discarded by its check may hide a complete one behind its start byte (R171). -/
theorem test_hunt_finds_frame :
    afterDiscard false [0xC5, 0x02, 0xC5, 0x00, 0x01, 0x00, 0x00, 0xB3, 0xF0] = [0xC5, 0x00, 0x01, 0x00, 0x00, 0xB3, 0xF0] := by
  decide +kernel

/-! ### Smoke and heat: the worked cases of section 2.9 -/

def class0 : ClassRec :=
  { tpDay := 18, taDay := 36, tpNight := 12, taNight := 24, k := 2, w := 6, l := 80, hf := 116, hr := 12 }

def smoke (baseline readings confirm : Nat) (c : Condition) : Point :=
  { kind := .smoke, zone := 3, enabled := true, condition := c
    arith := some { baseline := baseline, learnt := true, readings := readings, confirm := confirm } }

/-- Section 2.9.1, step 1. -/
theorem test_drift_upward : (evaluateSmoke class0 .night (smoke 3200 63 0 .normal) 14).arith =
    { baseline := 3206, learnt := true, readings := 0, confirm := 0 } := by decide +kernel

/-- Section 2.9.1, steps 2 and 3 at night, and step 2 by day. -/
theorem test_smoke_levels :
    (evaluateSmoke class0 .night (smoke 3206 0 0 .normal) 40).condition = .pre ∧
    (evaluateSmoke class0 .night (smoke 3206 0 0 .normal) 40).joins = true ∧
    (evaluateSmoke class0 .night (smoke 3206 1 1 .pre) 43).condition = .active ∧
    (evaluateSmoke class0 .day (smoke 3206 0 0 .normal) 40).arith.confirm = 0 := by decide +kernel

/-- Section 2.9.2: truncation toward zero, and the drift limit. -/
theorem test_drift_downward : (evaluateSmoke class0 .night (smoke 3206 63 0 .normal) 10).arith.baseline = 3196 := by
  decide +kernel

theorem test_drift_limit :
    (evaluateSmoke class0 .night (smoke 20470 63 0 .normal) 85).arith.baseline = 20480 ∧
    (evaluateSmoke class0 .night (smoke 20470 63 0 .normal) 85).drifts = true := by decide +kernel

/-- Section 2.9.4, the first two answers. -/
def heat (ring : List Nat) (confirm : Nat) : Point :=
  { kind := .heat, enabled := true, condition := .pre, arith := some { ring := ring, confirm := confirm } }

theorem test_heat_rise :
    let e := evaluateHeat class0 (heat [100, 101, 101, 102, 104, 106, 108, 110] 0) 113
    e.arith = { ring := [101, 101, 102, 104, 106, 108, 110, 113], confirm := 1 } ∧ e.condition = .pre ∧ e.joins = true := by
  decide +kernel

theorem test_heat_confirmed :
    (evaluateHeat class0 (heat [101, 101, 102, 104, 106, 108, 110, 113] 1) 114).condition = .active := by decide +kernel

/-! ### Routes: the worked cases of section 8.6 -/

def view (exit : Bool) (blocked := false) (penalty := 0) : ZoneView := { exit := exit, blocked := blocked, penalty := penalty }

def building : Vector (Option Passage) 96 := Tab.build 96 fun i => match i with
  | 0 => some { a := 1, b := 0, cost := 10, way := .both, door := none }
  | 1 => some { a := 2, b := 1, cost := 20, way := .both, door := none }
  | 2 => some { a := 3, b := 2, cost := 15, way := .both, door := none }
  | 3 => some { a := 3, b := 4, cost := 12, way := .both, door := none }
  | 4 => some { a := 4, b := 5, cost := 30, way := .both, door := none }
  | 5 => some { a := 2, b := 4, cost := 25, way := .both, door := some 3 }
  | _ => none

/-- The snapshot of the six zones with the listed zones burning and door 3 usable or not. -/
def shot (burning : List Nat) (door3 : Bool) : Snapshot where
  zones := Tab.build 48 fun z => if z < 6 then some (view (z == 0 || z == 5) (burning.contains z)) else none
  doorUsable := Tab.build 32 fun n => n != 3 || door3

/-- Distance and next passage of a zone in the plan of a snapshot. -/
def told (s : Snapshot) (z : Nat) : Option (Nat × Option Nat) :=
  (Tab.get? (s.pass building).entries z).map fun e => (e.distance, e.next.map (·.passage))

theorem test_plan_quiet :
    (told (shot [] true) 2, told (shot [] true) 3, (shot [] true |>.pass building).sweeps) =
      (some (30, some 1), some (42, some 3), 3) := by decide +kernel

theorem test_plan_hall_burns :
    (told (shot [1] true) 1, told (shot [1] true) 2) = (some (10, some 0), some (55, some 5)) := by decide +kernel

theorem test_plan_enclosed : told (shot [1, 3] false) 2 = some (4095, none) := by decide +kernel

/-! ### Link, supervision, signs -/

/-- A report queue of 32, of them not FIRE: door 9 at position 4, zone 30 at position 10, entry 41 at position 20
(section 10.7.1). -/
def crowded : Link where
  reports := (List.range 32).map fun i =>
    if i = 3 then { cls := .door, object := 9, state := .doorCondition .opened, stamp := 0 }
    else if i = 9 then { cls := .security, object := 30, state := .zoneSecurity .armed, stamp := 0 }
    else if i = 19 then { cls := .system, object := 41, state := .ruleOutcome .on, stamp := 0 }
    else { cls := .fire, object := i, state := .zoneFault true, stamp := 0 }

def sounder5 : Report := { cls := .fire, object := 5, state := .sounder .sounding, stamp := 9 }

theorem test_queue_overflow :
    let l := crowded.queue sounder5
    (l.reports.length, l.gapMark, l.reports.getLast?, l.reports[8]?.map (·.object), l.reports[18]?.map (·.object)) =
      (32, true, some sounder5, some 30, some 41) := by decide +kernel

theorem test_queue_in_place :
    let l := crowded.queue { cls := .door, object := 9, state := .doorCondition .held, stamp := 9 }
    (l.reports.length, l.gapMark, l.reports[3]?.map (·.state)) = (32, false, some (.doorCondition .held)) := by decide +kernel

/-- Section 11.5.1: at 1006 a pair refreshes the timer of 10 s; at 1012 a second PULSE_B does not. -/
theorem test_pulse_pair :
    let d : Device := { run with clock := 1006, sup := { mode := .linked ⟨1000, 10⟩, interval := 10, lastPulse := .pulseA } }
    ((after (.pulseB (hdr 0) []) d).sup.mode, sent (.pulseB (hdr 0) []) d) = (.linked ⟨1006, 10⟩, some (.ok, .refreshed true)) := by
  decide +kernel

theorem test_pulse_repeated :
    let d : Device := { run with clock := 1012, sup := { mode := .linked ⟨1006, 10⟩, interval := 10, lastPulse := .pulseB } }
    ((after (.pulseB (hdr 0) []) d).sup.mode, sent (.pulseB (hdr 0) []) d) = (.linked ⟨1006, 10⟩, some (.ok, .refreshed false)) := by
  decide +kernel

/-- Section 11.5.1: RESUME at 1031 after the expiry at 1024. -/
theorem test_resume :
    let d : Device := { run with clock := 1031, sup := { mode := .autonomous 1024, interval := 10 } }
    ((after (.resume (hdr 0) []) d).sup.mode, sent (.resume (hdr 0) []) d) = (.linked ⟨1031, 10⟩, some (.ok, .resumed 1024 7)) := by
  decide +kernel

/-- Section 9.6.2: at counter 5 = 000101 a test lights arrow 3 and the legend. -/
theorem test_lamp_pattern : testPattern 5 = #v[.dark, .dark, .dark, .steady, .dark, .steady] := by decide +kernel

/-! ### Fire, doors, guarding -/

/-- R44, R45: a smoke point becomes ACTIVE by day in a zone with verify; R46: the acknowledgement time then runs out. -/
theorem test_verify_begins :
    (({ withZone run 3 gallery with regime := .day } : Device).firePointChanged 3 5 .smoke .pre .active).fire 3 =
      .verify .ackWait ⟨0, 30⟩ 5 := by decide +kernel

/-- R84: a zone in ALARM unlocks the EGRESS door on its passage, over a STATION demand (section 5.9.1). -/
def doorCase : Device :=
  { withZone (withDoor run 3 { egress with demands := { station := some { drive := .lock, station := 4, timer := none } } }) 2
      { gallery with fire := .verify .ackWait ⟨0, 30⟩ 5, activeCount := 1 } with
    passages := building, clock := 30 }

theorem test_life_over_station :
    ((after (.fireTimerExpiry 2) doorCase).door? 3).map (fun r => (r.drive, r.level)) = some (.unlock, .life) := by
  decide +kernel

/-- Section 5.9.2: the contact opens without a REX press on a SECURE door. -/
theorem test_forced :
    let r : Door := { egress with leaf := some .closed, lock := some .locked, condition := some .secure }
    let d : Device := { withZone (withDoor run 9 r) 2 { gallery with security := .armed } with doorLine := { exchange := some 9 } }
    (((after (.doorStatus .opened .locked false) d).door? 9).map (·.condition),
      ((after (.doorStatus .opened .locked false) d).zone? 2).map (·.security)) =
      (some (some .forced), some (.intruder .forcedDoor (.door 9) 0)) := by decide +kernel

/-- Section 10.7.2: DISABLE_POINT 250 with a count of 10 takes the run 250..255. -/
theorem test_run_cut : runFrom 250 10 255 = [250, 251, 252, 253, 254, 255] := by decide +kernel

/-- R177, R138: the frame on the line after the first power-on is the CALLS_CLEARED report of 0 calls and 0 points. -/
theorem test_reset_report : State.reset.dev.link.tx.isSome = true ∧ (after .frameSent State.reset.dev).link.tx = none := by
  decide +kernel

/-- R184: the head of the body of the CALLS_CLEARED report of a part that has run for 0x01020304 seconds, and the whole frame
of a failed COMMIT: length 3 counts the status; the check value computed outside the model. -/
theorem test_sent_bytes :
    Report.bodyHead { cls := .call, object := 0, state := .callsCleared 0 0, stamp := 0x01020304, gap := true } =
      [1, 21, 0, 1, 1, 2, 3, 4] ∧
    TxFrame.bytes (.reply { kind := 0x99, header := hdr 15, status := .checkFailed, content := .checkFailed 4 12 }) =
      [0xC5, 0x03, 0x99, 0x0F, 0x00, 0x0F, 0x04, 0x0C, 0xEB, 0x8A] ∧
    TxFrame.kind (.report clearedAtPowerOn) = 0x40 ∧ (TxFrame.header (.report clearedAtPowerOn)).station = 15 := by
  decide +kernel

/-- R18: the reply of QUERY POINT tells nothing of the clear mark. -/
theorem test_query_point_row :
    (smoke 3206 5 1 .pre).row = { (smoke 3206 5 1 .pre) with clearMark := true }.row ∧
    (smoke 3206 5 1 .pre).row.part = .smoke 3206 true 5 1 ∧ (heat [7, 9] 1).row.part = .heat 2 [7, 9] 1 := by decide +kernel

/-- R190: with the supply gone no circuit sounds and no relay is energised. -/
theorem test_outputs_off :
    let d : Device := { run with sounders := Vector.replicate 16 { request := true, state := .sounding }, relays := Vector.replicate 16 true }
    ((after .supplyBelowWorkingLevel d).sounder 3, Tab.getD (after .supplyBelowWorkingLevel d).relays 7 true) =
      ({ request := true, state := .quiet }, false) := by decide +kernel

/-! ### States and operands that meet the hypotheses of the obligations, clause by clause -/

/-- A reply, and a device whose reply list is full. -/
def someReply : Reply := { kind := 0x81, header := hdr 0, status := .ok }
def fullReplies : Device := { run with link := { op := .running, replies := List.replicate 4 someReply } }

/-- COMMIT in flight in COMMISSIONING. -/
def committing : Device := { link := { commit := some (hdr 15) } }

theorem witness_StepRunsFront : State.reset.pending = [] := rfl

theorem witness_FramesRoundTrip :
    (Instr.wellFormed (.pulseA (hdr 0) []) = true ∧ frameOf (.pulseA (hdr 0) []) = some (0x01, hdr 0, [])) ∧
    (Instr.wellFormed (.loadZone (hdr 15) (List.replicate 250 0xC5)) = true ∧
      frameOf (.loadZone (hdr 15) (List.replicate 250 0xC5)) = some (0x10, hdr 15, List.replicate 250 0xC5)) ∧
    (Instr.wellFormed (.queryStatus (hdr 7) [255]) = true ∧ frameOf (.queryStatus (hdr 7) [255]) = some (0x08, hdr 7, [255])) ∧
    (Instr.wellFormed (.unknownKind 0x09 (hdr 8) []) = true ∧ frameOf (.unknownKind 0x09 (hdr 8) []) = some (0x09, hdr 8, [])) := by
  decide +kernel

theorem witness_ReceiverHuntsAgain :
    run.up = true ∧
    (let u : List Byte := [0xC5, 0x00, 0x01, 0x00, 0x00, 0xB3, 0xF0]
     u <:+ [0x02, 0xC5, 0x00, 0x01, 0x00, 0x00, 0xB3, 0xF0] ∧ u.head? = some startByte ∧ scanFrame u ≠ .bad ∧
      scanFrame u ≠ .incomplete) := by decide +kernel

theorem witness_FramesTurnedAway :
    frameOf (.silence (hdr 0) []) = some (0x25, hdr 0, []) ∧
    ({ inputs := { supplyOk := false } } : Device).up = false ∧
    (fullReplies.up = true ∧ fullReplies.link.discards = true) ∧
    (committing.up = true ∧ committing.link.discards = false ∧ committing.link.commit ≠ none) := by decide +kernel

theorem witness_FramesTurnedAway_refused :
    run.up = true ∧ run.link.discards = false ∧ run.link.commit = none ∧
    frameOf (.unknownKind 0x09 (hdr 0) []) = some (0x09, hdr 0, []) ∧
    slotOf (hdr 8).station = none ∧ slotOf (hdr 14).station = none ∧ slotOf (hdr 16).station = none ∧
    slotOf (hdr 7).station ≠ none ∧ slotOf (hdr 15).station ≠ none ∧ [1].length ∉ allowedLengths 0x25 ∧
    ([] : List Byte).length ∉ allowedLengths 0x20 := by decide +kernel

theorem hears_run : run.hears (hdr 3) 3 := by simp only [Device.hears, Device.listens]; decide +kernel
theorem hears_idle : idle.hears (hdr 15) 8 := by simp only [Device.hears, Device.listens]; decide +kernel

theorem witness_TakenRequests :
    (alone run).listens (hdr 3) 3 ∧ run.listens (hdr 3) 3 ∧ idle.listens (hdr 15) 8 ∧
    ((alone run).isAutonomous = true ∧ answeredInAutonomous 0x25 = false ∧ ([] : List Byte).length ∈ allowedLengths 0x25) ∧
    (run.isAutonomous = false ∧ run.isRunning = true ∧ [0, 0].length ∈ allowedLengths 0x18) ∧
    (idle.isAutonomous = false ∧ idle.isRunning = false ∧ [0].length ∈ allowedLengths 0x2E) := by
  simp only [Device.listens]; decide +kernel

/-- A device in RUNNING whose station 3 has a count of 10 waiting. -/
def counted : Device := { link := { op := .running, slots := Tab.put (Vector.replicate 9 none) 3 (some 10) } }

theorem witness_TakenRequests_slot :
    counted.listens (hdr 3) 3 ∧ counted.slot 3 = some 10 ∧ counted.isAutonomous = false ∧ [4].length ∈ allowedLengths 0x06 ∧
    [0, 4].length ∈ allowedLengths 0x08 := by
  simp only [Device.listens]; decide +kernel

def allFire : Link where
  reports := (List.range 32).map fun i => { cls := .fire, object := i, state := .zoneFault true, stamp := 0 }

def doorReport : Report := { cls := .door, object := 9, state := .doorCondition .opened, stamp := 0 }
def avoid14 : Report := { cls := .system, object := 14, state := .zoneAvoid true, stamp := 0 }

theorem witness_ReportQueue :
    ({ masks := { door := true } } : Link).masks.has doorReport.cls = true ∧
    (crowded.masks.has doorReport.cls = false ∧ crowded.reports = crowded.reports.take 3 ++ doorReport :: crowded.reports.drop 4 ∧
      doorReport.same doorReport = true ∧ ∀ q ∈ crowded.reports.take 3 ++ crowded.reports.drop 4, doorReport.same q = false) ∧
    (crowded.reports.length = 32 ∧ (∀ q ∈ crowded.reports, sounder5.same q = false) ∧
      (∀ q ∈ crowded.reports.take 3, q.cls = .fire) ∧ doorReport.cls ≠ .fire) ∧
    (allFire.reports.length = 32 ∧ (∀ q ∈ allFire.reports, q.cls = .fire ∧ sounder5.same q = false ∧ avoid14.same q = false) ∧
      avoid14.cls ≠ .fire) ∧
    ({} : Link).reports.length < 32 ∧
    (State.reset.dev.up = true ∧ State.reset.dev.link.tx ≠ none ∧ State.reset.dev.link.restartReplySent = false ∧
      State.reset.dev.link.replies = [] ∧ State.reset.dev.link.reports = []) := by decide +kernel

theorem witness_ReportQueue_sending :
    let d : Device := { link := { crowded with tx := some (.reply someReply) } }
    d.up = true ∧ d.link.tx = some (.reply someReply) ∧ d.link.restartReplySent = false ∧ d.link.replies = [] ∧
    d.link.reports = crowded.reports.take 1 ++ crowded.reports.drop 1 := by decide +kernel

theorem witness_LinkRequests_sending :
    let d : Device := { link := { crowded with tx := some (.reply someReply), replies := [someReply] } }
    d.up = true ∧ d.link.tx = some (.reply someReply) ∧ d.link.restartReplySent = false ∧ d.link.replies = [someReply] := by
  decide +kernel

def pulsed : Device := { run with sup := { lastPulse := .pulseA } }

theorem witness_LinkRequests :
    run.listens (hdr 3) 3 ∧ run.hears (hdr 3) 3 ∧ (alone run).listens (hdr 3) 3 ∧ pulsed.listens (hdr 0) 0 ∧
    (pulsed.sup.lastPulse = .pulseA ∧ pulsed.isAutonomous = false) ∧ run.sup.lastPulse ≠ .pulseA ∧
    run.sup.locked = false ∧ ({ run with sup := { locked := true } } : Device).hears (hdr 3) 3 ∧
    (alone run).sup.mode = .autonomous 5 ∧ run.sup.mode = .linked ⟨0, 30⟩ ∧
    4 ≤ (4 : Byte).toNat ∧ ((3 : Byte).toNat, 60) ∈ [(0, 5), (1, 10), (2, 30), (3, 60)] := by
  simp only [Device.hears, Device.listens]; decide +kernel

/-! Two claimed calls of station 1 and a waiting call. -/

def claimedCall (n owner : Nat) : Call :=
  { number := n, point := 60 + n, zone := 3, kind := .help, arrival := n, priority := .normal, state := .claimed owner }

def waitingCall (n : Nat) : Call :=
  { number := n, point := 60 + n, zone := 3, kind := .help, arrival := n, priority := .normal, state := .waiting 0 }

def calling : Device := { run with board := { calls := [claimedCall 5 1, claimedCall 6 1, waitingCall 7], callCounter := 8 } }

/-- Sixteen calls, the first claimed by station 2, and two points that wait. -/
def crowd : Device :=
  { run with board := {
      calls := claimedCall 0 2 :: (List.range 15).map fun i => waitingCall (i + 1)
      waitingPoints := [100, 101], callCounter := 200 } }

def claims (d : Device) : Nat := d.board.calls.countP fun c => match c.state with
  | .claimed _ => true
  | _ => false

theorem owned_le_claims (d : Device) (n : Nat) : d.board.owned n ≤ claims d := by
  refine List.countP_mono_left fun c _ h => ?_
  simp only [beq_iff_eq] at h
  simp [h]

theorem callLaw_of (d : Device) (hr : d.isRunning = true) (ha : d.isAutonomous = false) (hc : claims d ≤ claimLimit)
    (h : d.board.calls.length ≤ callCapacity ∧ d.board.callCounter < 256 ∧ d.board.arrivalCounter < 65536 ∧ (d.board.calls.map (·.point)).Nodup ∧ (d.board.calls.map (·.number)).Nodup ∧
      d.board.waitingPoints.Nodup ∧ (∀ c ∈ d.board.calls, c.point < 256 ∧ c.point ∉ d.board.waitingPoints) ∧
      (∀ p ∈ d.board.waitingPoints, p < 256) ∧ (d.board.waitingPoints ≠ [] → d.board.calls.length = callCapacity)) :
    CallLaw d := by
  obtain ⟨h1, c1, c2, h2, h3, h4, h5, h6, h7⟩ := h
  exact ⟨h1, c1, c2, h2, h3, h4, h5, h6, h7, fun n => (owned_le_claims d n).trans hc, fun h => by simp [ha] at h, fun h => by simp [hr] at h⟩

theorem callLaw_run : CallLaw run := callLaw_of run rfl rfl (by decide +kernel) (by decide +kernel)
theorem callLaw_calling : CallLaw calling := callLaw_of calling rfl rfl (by decide +kernel) (by decide +kernel)
theorem callLaw_crowd : CallLaw crowd := callLaw_of crowd rfl rfl (by decide +kernel) (by decide +kernel)

/-- RUNNING with a zone in VERIFY, a STATION demand, a group in TEST and claimed calls. -/
def busyHouse (now : Seconds) : Device :=
  { withZone (withDoor calling 3 { egress with demands := { station := some { drive := .lock, station := 4, timer := none } } }) 2
      { gallery with fire := .verify .ackWait ⟨0, 30⟩ 5, activeCount := 1 } with clock := now }

theorem callLaw_busy (now : Seconds) : CallLaw (busyHouse now) := callLaw_calling

theorem witness_SupervisionExpiry :
    (busyHouse 29).up = true ∧ (busyHouse 29).sup.mode = .linked ⟨0, 30⟩ ∧ (⟨0, 30⟩ : Timer).due (busyHouse 29).clock = false ∧
    (⟨0, 30⟩ : Timer).due (busyHouse 30).clock = true ∧ (busyHouse 30).isRunning = true ∧ CallLaw (busyHouse 30) :=
  ⟨rfl, rfl, by decide +kernel, by decide +kernel, rfl, callLaw_busy 30⟩

theorem witness_LinkRequests_range_mask :
    idle.hears (hdr 15) 8 ∧ (1 ≤ (1 : Byte).toNat ∧ (64 : Byte).toNat ≤ 64) ∧ (0 : Byte).toNat = 0 ∧ 64 < (65 : Byte).toNat ∧
    ((0x3D : Byte).getLsbD 0 = true ∧ (0x3E : Byte).getLsbD 1 = true) ∧
    ((0x3C : Byte).getLsbD 0 = false ∧ (0x3C : Byte).getLsbD 1 = false) := by
  simp only [Device.hears, Device.listens]; decide +kernel

theorem witness_RestartAndCommit_restart :
    (idle.up = true ∧ idle.link.discards = false ∧ slotOf (hdr 15).station = some 8 ∧ idle.isAutonomous = false ∧
      idle.link.commit = none) ∧
    (committing.up = true ∧ committing.link.discards = false ∧ committing.isAutonomous = false ∧
      committing.link.commit = some (hdr 15)) := by decide +kernel

/-- The reply of a RESTART is on the line. -/
def restartingDev (d : Device) : Device :=
  { d with link := { d.link with restarting := true, tx := some (.reply { kind := 0x85, header := hdr 15, status := .ok }) } }

theorem witness_WarmRestart :
    ((restartingDev (busyHouse 7)).up = true ∧ (restartingDev (busyHouse 7)).link.restartReplySent = true) ∧
    ((restartingDev idle).up = true ∧ (restartingDev idle).link.restartReplySent = true ∧ (restartingDev idle).isRunning = false) ∧
    (restartingDev (busyHouse 7)).isRunning = true ∧
    ({ busyHouse 7 with link := { crowded with op := .running } } : Device).link.reports.isEmpty = false ∧
    (after .warmRestart (restartingDev (busyHouse 7))).link.reports.length < 31 := by decide +kernel

theorem witness_PowerAndReset :
    run.inputs.resetHeld = false ∧ run.inputs.supplyOk = true ∧
    ({ run with inputs := { resetHeld := true } } : Device).inputs.resetHeld = true ∧
    ({ run with inputs := { supplyOk := false } } : Device).inputs.supplyOk = false := by decide +kernel

theorem getD_replicate {α : Type} (n k : Nat) (x : α) : Tab.getD (Vector.replicate n x) k x = x := by
  simp only [Tab.getD]
  by_cases h : k < n <;> simp [h]

/-- The device with its supply gone. -/
def dark : Device := after .supplyBelowWorkingLevel run

theorem witness_PowerAndReset_down :
    dark.up = false ∧ ({ run with inputs := { resetHeld := true } } : Device).up = false ∧ OffLaw dark ∧
    ∃ t, step ⟨dark, [.resetInputHeld]⟩ = .next t := by
  refine ⟨by decide +kernel, by decide +kernel, fun _ => ⟨rfl, rfl, fun l => ?_, rfl, rfl, fun c => ?_, fun k => ?_⟩, _, rfl⟩
  · rcases Nat.lt_or_ge l 4 with h | h
    · have key : ∀ l, l < 4 → (dark.loop l).exchange = none := by decide +kernel
      exact key l h
    · simp [Device.loop, Tab.getD, Nat.not_lt.mpr h]
  · rcases Nat.lt_or_ge c 16 with h | h
    · have key : ∀ c, c < 16 → (dark.sounder c).state = .quiet := by decide +kernel
      exact key c h
    · simp [Device.sounder, Tab.getD, Nat.not_lt.mpr h]
  · exact getD_replicate 16 k false

/-- A configuration that every check of COMMIT accepts: an EXIT zone, a point, a class, a passage, a sign and a rule. -/
def house : Device where
  link := { commit := some (hdr 15) }
  zones := Tab.put (Tab.put (Vector.replicate 48 none) 0 (some { gallery with kind := .exit })) 1 (some gallery)
  points := Tab.put (Vector.replicate 256 {}) 255 { kind := .smoke, zone := 1, cls := 7, arith := some {} }
  classes := Tab.put (Vector.replicate 8 none) 7 (some class0)
  doors := Tab.put (Vector.replicate 32 none) 31 (some egress)
  passages := Tab.put (Vector.replicate 96 none) 95 (some { a := 1, b := 0, cost := 10, way := .both, door := some 31 })
  signs := Tab.put (Vector.replicate 64 none) 63 (some {
    zone := 1, group := 7, bindings := #v[some 95, none, none, none], legend := .alarm, invert := false
    shown := Vector.replicate 6 .dark })
  rules := Tab.put (Vector.replicate 128 none) 0 (some {
    enabled := true, latch := true, a := .zone 1 .fireAlarm, b := .global .yes, fn := .a, delay := 0
    effect := .door 31 .unlock })
  daySlots := 1

theorem witness_RestartAndCommit :
    idle.hears (hdr 15) 8 ∧ run.hears (hdr 15) 8 ∧ idle.isRunning = false ∧ run.isRunning = true ∧
    (committing.up = true ∧ committing.link.commit = some (hdr 15) ∧ committing.commitCheck = some (2, 255)) ∧
    idle.link.commit = none := by
  simp only [Device.hears, Device.listens]; decide +kernel

/-- The same configuration without its point. -/
def bare : Device := { house with points := Vector.replicate 256 {} }

theorem bare_check {d : Device} (h : d.points = Vector.replicate 256 {}) :
    d.commitCheck = (d.checkSomeExit <|> d.checkPassages <|> d.checkSigns <|> d.checkRules) := by
  have k : ∀ f p, d.pointThat f p = false := fun f p => by simp [Device.pointThat, Device.point, h, getD_replicate]
  obtain ⟨h1, h2, h3⟩ : d.checkPoints = none ∧ d.checkExits = none ∧ d.checkClasses = none := by
    simp [Device.checkPoints, Device.checkExits, Device.checkClasses, firstFrom, k]
  simp [Device.commitCheck, h1, h2, h3]

/-- The faults of the checks of points and classes, at the boundary of their tables. -/
theorem witness_CommitChecks_points :
    house.commitCheck = none ∧
    ({ house with zones := Vector.replicate 48 none } : Device).commitCheck = some (1, 255) ∧
    (house.putZone 1 { gallery with kind := .exit }).commitCheck = some (2, 1) ∧
    ({ house with classes := Vector.replicate 8 none } : Device).commitCheck = some (6, 7) := by decide +kernel

/-- The faults of the other checks, at the boundary of their tables. -/
theorem witness_CommitChecks :
    idle.commitCheck = some (2, 255) ∧
    ({ bare with doors := Vector.replicate 32 none } : Device).commitCheck = some (3, 95) ∧
    ({ bare with signs := Tab.put (Vector.replicate 64 none) 63 (some {
        zone := 1, group := 7, bindings := #v[none, none, none, some 94], legend := .alarm, invert := false
        shown := Vector.replicate 6 .dark }) } : Device).commitCheck = some (4, 63) ∧
    ({ bare with nightSlots := 1, rules := Tab.put (Vector.replicate 128 none) 127 (some {
        enabled := true, latch := true, a := .global .yes, b := .zone 47 .armed, fn := .a, delay := 0
        effect := .relay 3 }) } : Device).commitCheck = some (5, 127) := by
  rw [bare_check rfl, bare_check rfl, bare_check rfl, bare_check rfl]
  decide +kernel

theorem witness_CommitSucceeds : house.up = true ∧ house.link.commit = some (hdr 15) ∧ house.commitCheck = none := by
  decide +kernel

theorem witness_EditEnds :
    idle.hears (hdr 15) 8 ∧ (busyHouse 7).hears (hdr 15) 8 ∧ calling.hears (hdr 15) 8 ∧ idle.isRunning = false ∧
    ((busyHouse 7).isRunning = true ∧ (busyHouse 7).anyHot = true) ∧ (calling.isRunning = true ∧ calling.anyHot = false) := by
  simp only [Device.hears, Device.listens]; decide +kernel

theorem witness_Queries :
    house.link.commit ≠ none ∧ (alone run).listens (hdr 7) 7 ∧ idle.listens (hdr 15) 8 ∧
    ({ house with link := {} } : Device).listens (hdr 0) 0 ∧ (house.sign? (63 : Byte).toNat).isSome = true ∧
    house.sign? (62 : Byte).toNat = none ∧ (62 : Byte).toNat < 64 ∧ (47 : Byte).toNat < 48 ∧ 48 ≤ (48 : Byte).toNat ∧
    64 ≤ (64 : Byte).toNat ∧ (127 : Byte).toNat < 128 ∧ 128 ≤ (128 : Byte).toNat ∧ 32 ≤ (32 : Byte).toNat ∧
    2 ≤ (2 : Byte).toNat ∧ 9 ≤ (9 : Byte).toNat := by
  simp only [Device.listens]; decide +kernel

def timedDoor : Door :=
  { egress with
    confirm := some ⟨0, 3⟩, held := some ⟨0, 30⟩, shunt := some ⟨0, 10⟩, watch := some ⟨0, 3⟩
    condition := some .locking, leaf := some .closed, lock := some .unlocked
    demands := { station := some { drive := .lock, station := 4, timer := some ⟨0, 600⟩ } } }

theorem witness_QueryDoorAndCause :
    (withDoor run 31 timedDoor).listens (hdr 3) 3 ∧ (withDoor run 31 timedDoor).door? (31 : Byte).toNat = some timedDoor ∧
    (31 : Byte).toNat < 32 ∧ run.door? (31 : Byte).toNat = none := by
  simp only [Device.listens]; decide +kernel

/-! Commissioning requests: the byte ranges of each clause; `hears_idle` and `idle.isRunning = false` for all of them. -/

theorem witness_LoadZone :
    idle.hears (hdr 15) 8 ∧ idle.isRunning = false ∧ 48 ≤ (48 : Byte).toNat ∧ (47 : Byte).toNat < 48 ∧ 5 ≤ (5 : Byte).toNat ∧
    3 ≤ (3 : Byte).toNat ∧ ((4 : Byte).toNat, ZoneKind.exit) ∈ [(0, ZoneKind.gallery), (1, .circulation), (2, .stair), (3, .store), (4, .exit)] ∧
    ((2 : Byte).toNat, ArmPolicy.always) ∈ [(0, ArmPolicy.never), (1, .night), (2, .always)] := by
  refine ⟨hears_idle, ?_⟩; decide +kernel

theorem witness_LoadPoint :
    idle.hears (hdr 15) 8 ∧ idle.isRunning = false ∧ 48 ≤ (48 : Byte).toNat ∧ 8 ≤ (8 : Byte).toNat ∧ (47 : Byte).toNat < 48 ∧
    (7 : Byte).toNat < 8 ∧ 9 ≤ (9 : Byte).toNat ∧ ((2 : Byte).getLsbD 1 = true ∧ (4 : Byte).toNat ≠ 5) ∧
    PointKind.ofCode (8 : Byte).toNat = some .refuge ∧ PointKind.ofCode (0 : Byte).toNat = some .absent ∧
    (idle.loop 3).exchange = none := by
  refine ⟨hears_idle, ?_⟩; decide +kernel

/-- An idle loop 3 whose sweep has reached its last address. -/
def swept : Device := { idle with loops := Tab.put (Vector.replicate 4 {}) 3 { sweep := some 63 } }

/-- The point table that LOAD_POINT of point 255 leaves of an empty one. -/
def lastPoint : Device := { idle with points := Tab.put idle.points 255 { kind := .refuge, zone := 47, cls := 7 } }

/-- What an idle loop starts: the address above its place, the lowest after the wrap, or nothing. -/
theorem witness_LoadPoint_idle_loop :
    ((lastPoint.point 255).kind ≠ .absent ∧ ∀ b, b < 63 → (lastPoint.point (192 + b)).kind = .absent) ∧
    (∀ a, ({ idle with points := Tab.put idle.points 255 {} } : Device).point (192 + a) = {}) ∧ (idle.loop 3).sweep = none ∧
    (swept.hears (hdr 15) 8 ∧ swept.isRunning = false ∧ (swept.loop 3).exchange = none ∧ (swept.loop 3).sweep = some 63) := by
  refine ⟨by decide +kernel, fun a => ?_, by decide +kernel, ?_⟩
  · show Tab.getD (Tab.put (Vector.replicate 256 ({} : Point)) 255 {}) (192 + a) {} = {}
    rw [Tab.getD_put, getD_replicate]
    split <;> rfl
  · simp only [Device.hears, Device.listens]; decide +kernel

theorem witness_LoadClass :
    idle.hears (hdr 15) 8 ∧ idle.isRunning = false ∧ 8 ≤ (8 : Byte).toNat ∧ (7 : Byte).toNat < 8 ∧
    max 1 (min 200 (0 : Byte).toNat) < max 1 (min 200 (2 : Byte).toNat) ∧
    max 1 (min 200 (255 : Byte).toNat) ≤ max 1 (min 200 (200 : Byte).toNat) := by
  refine ⟨hears_idle, ?_⟩; decide +kernel

theorem witness_LoadDoor :
    idle.hears (hdr 15) 8 ∧ idle.isRunning = false ∧ 32 ≤ (32 : Byte).toNat ∧ 48 ≤ (48 : Byte).toNat ∧ (31 : Byte).toNat < 32 ∧
    (47 : Byte).toNat < 48 ∧ 3 ≤ (3 : Byte).toNat ∧ ((1 : Byte).getLsbD 0 = true ∧ (2 : Byte).toNat = 2) ∧
    ((2 : Byte).toNat, DoorKind.fireLeaf) ∈ [(0, DoorKind.egress), (1, .strongroom), (2, .fireLeaf)] ∧
    (withDoor idle 31 egress).hears (hdr 15) 8 ∧ (withDoor idle 31 egress).door? 31 = some egress ∧
    idle.doorLine.exchange = none ∧ ({ idle with doorLine := { exchange := some 3 } } : Device).doorLine.exchange ≠ none := by
  refine ⟨hears_idle, ?_⟩; simp only [Device.hears, Device.listens]; decide +kernel

theorem witness_LoadTable_passage :
    idle.hears (hdr 15) 8 ∧ idle.isRunning = false ∧ 96 ≤ (96 : Byte).toNat ∧ (95 : Byte).toNat < 96 ∧ 2 ≤ (2 : Byte).toNat ∧
    (32 ≤ (32 : Byte).toNat ∧ (254 : Byte).toNat ≠ 255) ∧ 48 ≤ (48 : Byte).toNat ∧ (31 : Byte).toNat < 32 ∧ (255 : Byte).toNat = 255 ∧
    (47 : Byte) ≠ 46 ∧ ((1 : Byte).toNat, Way.aToB) ∈ [(0, Way.both), (1, .aToB)] := by
  refine ⟨hears_idle, ?_⟩; decide +kernel

theorem witness_LoadSign :
    idle.hears (hdr 15) 8 ∧ idle.isRunning = false ∧ 64 ≤ (64 : Byte).toNat ∧ (63 : Byte).toNat < 64 ∧ 2 ≤ (2 : Byte).toNat ∧
    (95 : Byte).toNat < 96 ∧ (255 : Byte).toNat = 255 ∧ ¬((96 : Byte).toNat < 96 ∨ (96 : Byte).toNat = 255) ∧ 48 ≤ (48 : Byte).toNat ∧
    8 ≤ (8 : Byte).toNat ∧ (47 : Byte).toNat < 48 ∧ (7 : Byte).toNat < 8 ∧ 4 ≤ (4 : Byte).toNat ∧
    ((3 : Byte).toNat, LegendSource.alarm) ∈ [(0, LegendSource.dark), (1, .lit), (2, .mainsFail), (3, .alarm)] ∧
    idle.signLine.sending = none := by
  refine ⟨hears_idle, ?_⟩; decide +kernel

theorem witness_LoadTable :
    idle.hears (hdr 15) 8 ∧ idle.isRunning = false ∧ 128 ≤ (128 : Byte).toNat ∧ (127 : Byte).toNat < 128 ∧
    (47 : Byte).toNat < 48 ∧ (255 : Byte).toNat = 255 ∧ ¬((48 : Byte).toNat < 48 ∨ (254 : Byte).toNat = 255) ∧
    ((0 : Byte).toNat = 0 ∧ ¬(32 : Byte).toNat < 32) ∧ ((47 : Byte).toNat ≠ 255 ∧ 9 ≤ (9 : Byte).toNat) ∧ 6 ≤ (6 : Byte).toNat ∧
    16 ≤ (16 : Byte).toNat ∧ 4 ≤ (4 : Byte).toNat ∧ Operand.ofBytes 47 8 = some (.zone 47 .noRoute) ∧
    Operand.ofBytes 255 5 = some (.global .alarmHold) ∧ Combine.ofCode 15 = some .always ∧
    Effect.ofBytes 3 47 9 = some (.avoid 47) ∧ Effect.ofBytes 0 31 3 = some (.door 31 .close) ∧
    8 ≤ (8 : Byte).toNat ∧ (7 : Byte).toNat < 8 := by
  refine ⟨hears_idle, ?_⟩; decide +kernel

/-! Operating requests. -/

theorem witness_SetRegime :
    (busyHouse 7).hears (hdr 3) 3 ∧ idle.hears (hdr 15) 8 ∧ 2 ≤ (2 : Byte).toNat ∧
    ((1 : Byte).toNat, Regime.night) ∈ [(0, Regime.day), (1, .night)] ∧ Regime.night = (busyHouse 7).regime ∧
    ((0 : Byte).toNat, Regime.day) ∈ [(0, Regime.day), (1, .night)] ∧ Regime.day ≠ (busyHouse 7).regime := by
  simp only [Device.hears, Device.listens]; decide +kernel

/-- DAY, a hold that runs, and zone 2 in VERIFY: the change to NIGHT makes ANY_ALARM true. -/
theorem witness_SetRegime_hold :
    let d : Device := { busyHouse 7 with regime := .day, alarmHold := some ⟨0, 60⟩ }
    d.hears (hdr 3) 3 ∧ ((1 : Byte).toNat, Regime.night) ∈ [(0, Regime.day), (1, .night)] ∧ Regime.night ≠ d.regime ∧
    d.anyAlarm = false ∧ (after (.setRegime (hdr 3) [1]) d).anyAlarm = true ∧
    (after (.setRegime (hdr 3) [1]) d).alarmHold = none := by
  simp only [Device.hears, Device.listens]; decide +kernel

def latched : Rule :=
  { enabled := true, latch := true, a := .global .mainsFail, b := .global .yes, fn := .a, delay := 5, effect := .relay 3
    outcome := .on }

/-- Entry 127 alone lies in the night range. -/
def ruled (r : Rule) : Device :=
  { run with rules := Tab.put (Vector.replicate 128 none) 127 (some r), nightSlots := 1 }

theorem witness_ClearLatches :
    (ruled latched).hears (hdr 3) 3 ∧ (ruled latched).isRunning = true ∧ (ruled latched).rule? 127 = some latched ∧
    (ruled latched).live 127 = true ∧ (ruled latched).truth latched = false := by
  simp only [Device.hears, Device.listens]; decide +kernel

def zoneWith (f : Fire) (active : Nat) : Device := withZone run 47 { gallery with fire := f, activeCount := active }
def verifying : Fire := .verify .ackWait ⟨0, 30⟩ 5
def burning : Fire := .alarm .point (some 5) 0 none none

theorem witness_FireRequests :
    run.isRunning = true ∧ run.hears (hdr 15) 8 ∧ run.hears (hdr 7) 7 ∧ (hdr 15).station.toNat = 15 ∧ (hdr 7).station.toNat < 8 ∧
    (run.zone? (48 : Byte).toNat = none ∧ run.zone? (47 : Byte).toNat = none) ∧
    ((zoneWith .quiet 0).hears (hdr 7) 7 ∧ (zoneWith .quiet 0).zone? (47 : Byte).toNat = some { gallery with fire := .quiet } ∧
      Fire.isVerify .quiet = false ∧ Fire.isAlarm .quiet = false) ∧
    ((zoneWith verifying 1).hears (hdr 7) 7 ∧ (zoneWith verifying 0).hears (hdr 7) 7 ∧ verifying.isVerify = true) ∧
    ((zoneWith burning 1).hears (hdr 7) 7 ∧ (zoneWith burning 0).hears (hdr 7) 7 ∧ burning.isAlarm = true) := by
  simp only [Device.hears, Device.listens]; decide +kernel

theorem witness_FireRequests_sounders : run.hears (hdr 3) 3 ∧ run.isRunning = true := ⟨hears_run, rfl⟩

def guarded (x : Security) (cases : Nat) : Device := withZone run 47 { gallery with security := x, openCases := cases }
def intruded : Security := .intruder .case (.point 5) 0

theorem witness_Guarding :
    (counted.hears (hdr 3) 3 ∧ counted.slot 3 ≠ none ∧ (47 : Byte).toNat < 48) ∧ run.slot 3 = none ∧
    (run.zone? (47 : Byte).toNat = none ∧ 48 ≤ (48 : Byte).toNat) ∧
    ((withZone run 47 { gallery with policy := .never }).hears (hdr 3) 3) ∧
    ((guarded .off 0).hears (hdr 3) 3 ∧ (guarded .off 0).slot 3 = none ∧ (guarded .off 0).zone? 47 = some gallery ∧
      gallery.policy ≠ .never ∧ gallery.security.isIntruder = false) ∧
    ((guarded intruded 1).hears (hdr 3) 3 ∧ (guarded intruded 0).hears (hdr 3) 3 ∧ intruded.isIntruder = true ∧
      (guarded intruded 1).zone? 47 = some { gallery with security := intruded, openCases := 1 }) := by
  simp only [Device.hears, Device.listens]; decide +kernel

def withPoint (d : Device) (p : Nat) (r : Point) : Device := d.putPoint p r

theorem witness_PointsSwitched :
    run.hears (hdr 3) 3 ∧ run.slot 3 = none ∧ (run.point (255 : Byte).toNat).kind = .absent ∧
    counted.hears (hdr 3) 3 ∧ counted.slot 3 = some 10 ∧
    (withPoint run 255 (smoke 3200 0 1 .pre)).hears (hdr 3) 3 ∧
    ((withPoint run 255 (smoke 3200 0 1 .pre)).point (255 : Byte).toNat).kind ≠ .absent ∧
    (255 : Nat) ∈ (withPoint run 255 (smoke 3200 0 1 .pre)).runOf 3 255 255 := by
  simp only [Device.hears, Device.listens]; decide +kernel

theorem witness_DoorDemands :
    run.isRunning = true ∧ run.hears (hdr 3) 3 ∧ 32 ≤ (32 : Byte).toNat ∧ run.slot 3 = none ∧ run.door? (31 : Byte).toNat = none ∧
    (withDoor run 31 egress).hears (hdr 3) 3 ∧ (withDoor run 31 egress).door? (31 : Byte).toNat ≠ none ∧ 5 ≤ (5 : Byte).toNat ∧
    ((3 : Byte).toNat ≤ 4 ∧ Drive.ofCode 3 = some .close ∧ egress.kind.fits .close = false) ∧
    ((4 : Byte).toNat ≤ 4 ∧ Drive.ofCode 4 = none) ∧ egress.kind.fits .unlock = true ∧
    3600 < (0x0E : Byte).toNat * 256 + (0x11 : Byte).toNat ∧ counted.hears (hdr 3) 3 ∧ counted.slot 3 = some 10 := by
  simp only [Device.hears, Device.listens]; decide +kernel

theorem witness_CallRequests :
    (calling.hears (hdr 1) 1 ∧ calling.hears (hdr 4) 4 ∧ calling.hears (hdr 15) 8 ∧ calling.isRunning = true ∧ CallLaw calling) ∧
    (∀ c ∈ calling.board.calls, c.number ≠ (8 : Byte).toNat) ∧
    (claimedCall 5 1 ∈ calling.board.calls ∧ (claimedCall 5 1).number = (5 : Byte).toNat ∧ (claimedCall 5 1).state = .claimed 1) ∧
    (waitingCall 7 ∈ calling.board.calls ∧ (∀ owner, (waitingCall 7).state ≠ .claimed owner) ∧ calling.board.owned 1 = 2 ∧
      calling.board.owned 4 < 2) ∧
    calling.board.waitingPoints = [] ∧
    (crowd.hears (hdr 2) 2 ∧ crowd.isRunning = true ∧ CallLaw crowd ∧ claimedCall 0 2 ∈ crowd.board.calls ∧
      crowd.board.waitingPoints = [100, 101]) := by
  refine ⟨⟨?_, ?_, ?_, rfl, callLaw_calling⟩, by decide +kernel, by decide +kernel, ⟨by decide +kernel, ?_, by decide +kernel,
    by decide +kernel⟩, rfl, ?_, rfl, callLaw_crowd, by decide +kernel, rfl⟩
  all_goals first
    | (simp only [Device.hears, Device.listens]; decide +kernel)
    | (intro owner h; cases h)

def grouped (x : GroupState) : Device := run.putGroup 7 { testLength := 8, state := x }

theorem witness_Groups :
    8 ≤ (8 : Byte).toNat ∧ (7 : Byte).toNat < 8 ∧ (grouped .stopped).hears (hdr 3) 3 ∧ (grouped .stopped).isRunning = true ∧
    ((grouped .stopped).group 7).state = .stopped ∧ (grouped .stopped).anyHot = false ∧
    (grouped .run).hears (hdr 3) 3 ∧ ((grouped .run).group 7).state = .run ∧
    (grouped (.test 7 ⟨0, 2⟩)).hears (hdr 3) 3 ∧ ((grouped (.test 7 ⟨0, 2⟩)).group 7).state = .test 7 ⟨0, 2⟩ ∧
    ((withZone (grouped .stopped) 3 { gallery with fire := burning }).hears (hdr 3) 3 ∧
      (withZone (grouped .stopped) 3 { gallery with fire := burning }).anyHot = true) := by
  simp only [Device.hears, Device.listens]; decide +kernel

/-! Time, timers and field lines. -/

theorem witness_TimeAndZones : run.up = true ∧ false = run.mainsFail ∧ true ≠ run.mainsFail := by decide +kernel

def zoneAt (now : Seconds) (f : Fire) (x : Security) : Device :=
  { withZone run 47 { gallery with fire := f, security := x } with clock := now }

theorem witness_TimeAndZones_timers :
    ((zoneAt 30 verifying .off).up = true ∧ (zoneAt 30 verifying .off).zone? 47 = some { gallery with fire := verifying } ∧
      (⟨0, 30⟩ : Timer).due 30 = true ∧ (⟨0, 30⟩ : Timer).due 29 = false) ∧
    (run.fire 47).isVerify = false ∧ run.alarmHold = none ∧
    (({ run with alarmHold := some ⟨0, 60⟩, clock := 60 } : Device).alarmHold = some ⟨0, 60⟩ ∧ (⟨0, 60⟩ : Timer).due 60 = true) ∧
    ((zoneAt 30 .quiet (.setting ⟨0, 30⟩)).up = true ∧
      (zoneAt 30 .quiet (.setting ⟨0, 30⟩)).zone? 47 = some { gallery with security := .setting ⟨0, 30⟩ }) ∧
    ((zoneAt 20 .quiet (.entry ⟨0, 20⟩ (.point 5))).zone? 47 = some { gallery with security := .entry ⟨0, 20⟩ (.point 5) } ∧
      (⟨0, 20⟩ : Timer).due 20 = true ∧ (⟨0, 20⟩ : Timer).due 19 = false) := by decide +kernel

theorem witness_TimeAndZones_no_delay :
    run.up = true ∧ (∀ r tm, run.zone? 47 = some r → r.security ≠ .setting tm) ∧
    (∀ r tm src, run.zone? 47 = some r → r.security ≠ .entry tm src) ∧
    (∀ r tm, (zoneAt 30 .quiet .armed).zone? 47 = some r → r.security ≠ .setting tm) ∧
    (∀ r tm src, (zoneAt 30 .quiet (.setting ⟨0, 30⟩)).zone? 47 = some r → r.security ≠ .entry tm src) := by
  have h0 : run.zone? 47 = none := by decide +kernel
  have h1 : (zoneAt 30 .quiet .armed).zone? 47 = some { gallery with security := .armed } := by decide +kernel
  have h2 : (zoneAt 30 .quiet (.setting ⟨0, 30⟩)).zone? 47 = some { gallery with security := .setting ⟨0, 30⟩ } := by
    decide +kernel
  refine ⟨by decide +kernel, fun r tm h => ?_, fun r tm src h => ?_, fun r tm h => ?_, fun r tm src h => ?_⟩
  · rw [h0] at h; exact absurd h (by simp)
  · rw [h0] at h; exact absurd h (by simp)
  · rw [h1] at h; rw [← Option.some.inj h]; simp
  · rw [h2] at h; rw [← Option.some.inj h]; simp

theorem witness_DoorTimers :
    (withDoor run 31 timedDoor).up = true ∧ (withDoor run 31 timedDoor).door? 31 = some timedDoor ∧
    (withDoor run 31 timedDoor).isRunning = true ∧ (withDoor idle 31 timedDoor).isRunning = false ∧
    (timedDoor.confirm = some ⟨0, 3⟩ ∧ (⟨0, 3⟩ : Timer).due 3 = true ∧ (⟨0, 3⟩ : Timer).due 2 = false) ∧
    (timedDoor.held = some ⟨0, 30⟩ ∧ (⟨0, 30⟩ : Timer).due 30 = true) ∧
    (timedDoor.shunt = some ⟨0, 10⟩ ∧ (⟨0, 10⟩ : Timer).due 10 = true) ∧ timedDoor.watch = some ⟨0, 3⟩ ∧
    (timedDoor.demands.station.bind fun x => x.timer) = some ⟨0, 600⟩ ∧ (⟨0, 600⟩ : Timer).due 600 = true := by decide +kernel

def lined (r : Door) : Device := { withDoor run 9 r with doorLine := { exchange := some 9 } }

theorem witness_DoorStatus :
    run.up = true ∧ run.doorLine.exchange = none ∧ (lined timedDoor).up = true ∧ (lined timedDoor).doorLine.exchange = some 9 ∧
    (lined timedDoor).door? 9 = some timedDoor := by decide +kernel

/-- A door that has been heard, with the leaf, lock, condition and drive given. -/
def heardDoor (leaf : Leaf) (lock : LockPos) (c : DoorCondition) (v : Drive) : Door :=
  { egress with leaf := some leaf, lock := some lock, condition := some c, drive := v }

def heardLeaf (leaf : Leaf) (c : DoorCondition) (v : Drive) : Door :=
  { leafDoor with leaf := some leaf, condition := some c, drive := v }

theorem witness_DoorConditions :
    (withDoor run 9 egress).door? 9 = some egress ∧ egress.condition = none ∧ egress.health = .ok ∧
    (∀ r ∈ [heardDoor .closed .unlocked .free .unlock, heardDoor .closed .locked .secure .lock,
        heardDoor .opened .unlocked .opened .unlock, heardDoor .opened .unlocked .lockWait .lock,
        heardDoor .closed .unlocked .locking .lock, heardDoor .closed .unlocked .lockFail .lock],
      (withDoor run 9 r).door? 9 = some r ∧ r.health = .ok ∧ r.condition ≠ none ∧ r.kind.lockable = true) ∧
    (∀ r ∈ [heardDoor .closed .locked .free .unlock, heardDoor .closed .locked .locking .lock,
        heardDoor .closed .locked .lockFail .lock, heardDoor .opened .locked .opened .unlock],
      (withDoor run 9 r).door? 9 = some r ∧ r.lock ≠ some .unlocked ∧ r.condition ≠ some .secure) ∧
    (∀ r ∈ [heardLeaf .closed .secure .close, heardLeaf .opened .opened .holdOpen],
      (withDoor run 9 r).door? 9 = some r ∧ r.health = .ok ∧ r.condition ≠ none ∧ r.kind.lockable = false) := by decide +kernel

/-- A door with the demands given: DOOR 3, on the passage of zones 2 and 4, in the condition and drive given. -/
def demanded (c : DoorCondition) (v : Drive) (m : Demands) : Door :=
  { egress with condition := some c, drive := v, demands := m, leaf := some .closed }

def onPassage (r : Door) : Device := { withDoor run 3 r with passages := building }

theorem witness_DriveJudged :
    (∀ x ∈ [(DoorCondition.free, Drive.unlock), (.opened, .unlock), (.secure, .lock), (.locking, .lock), (.lockFail, .lock),
        (.lockWait, .lock), (.forced, .lock), (.held, .lock), (.nodeFault, .lock)],
      (onPassage (demanded x.1 x.2 {})).door? 3 = some (demanded x.1 x.2 {}) ∧
      ({} : Demands) ≠ { life := some .unlock } ∧ ({} : Demands) ≠ { rule := some .unlock } ∧
      ({} : Demands) ≠ { station := some { drive := .unlock, station := 1, timer := none } } ∧
      ({} : Demands) ≠ { intrusion := some .lock } ∧ ({} : Demands) ≠ { timetable := some .lock }) ∧
    (withDoor run 31 leafDoor).door? 31 = some leafDoor ∧ leafDoor.demands ≠ { rule := some .close } ∧
    ({ leafDoor with condition := some .opened } : Door).condition = some .opened ∧
    ((onPassage (demanded .free .unlock {})).isRunning = true ∧ (demanded .free .unlock {}).kind ≠ .fireLeaf ∧
      Drive.lock ≠ (demanded .free .unlock {}).drive ∧
      ∃ q, (onPassage (demanded .free .unlock {})).passage? 5 = some q ∧ q.door = some 3) := by
  refine ⟨by decide +kernel, by decide +kernel, by decide +kernel, rfl, rfl, by decide +kernel, by decide +kernel, _, rfl, rfl⟩

theorem door_above (d : Device) (j : Nat) (h : 32 ≤ j) : d.door? j = none := by
  cases hd : d.door? j with
  | none => rfl
  | some r => exact absurd (Tab.get?_lt hd) (Nat.not_lt.mpr h)

theorem sign_above (d : Device) (j : Nat) (h : 64 ≤ j) : d.sign? j = none := by
  cases hd : d.sign? j with
  | none => rfl
  | some r => exact absurd (Tab.get?_lt hd) (Nat.not_lt.mpr h)

/-- What holds below 32 holds of every door number from there on that no door has. -/
theorem doors_from (d : Device) (k : Nat) (h : ∀ j, j < 32 → k < j → (d.door? j).isSome = false) :
    ∀ j, k < j → (d.door? j).isSome = false := fun j hj => by
  rcases Nat.lt_or_ge j 32 with hl | hl
  · exact h j hl hj
  · rw [door_above _ j hl]; rfl

theorem signs_from (d : Device) (k : Nat) (h : ∀ j, j < 64 → k < j → (d.sign? j).isSome = false) :
    ∀ j, k < j → (d.sign? j).isSome = false := fun j hj => by
  rcases Nat.lt_or_ge j 64 with hl | hl
  · exact h j hl hj
  · rw [sign_above _ j hl]; rfl

/-- Doors 2 and 31 on a line that is busy with door 2, and whose round stands at `k`. -/
def doorRound (k : Nat) : Device :=
  { withDoor (withDoor run 2 egress) 31 egress with doorLine := { round := some k, exchange := some 2 } }

theorem witness_LineRounds_doors :
    run.up = true ∧ run.doorLine.exchange = none ∧ (doorRound 2).doorLine.exchange ≠ none ∧
    (let d : Device := { doorRound 2 with doorLine := { exchange := some 2, early := Tab.put (Vector.replicate 32 false) 31 true } }
     d.doorLine.exchange ≠ none ∧ (Tab.getD d.doorLine.early 31 false && (d.door? 31).isSome) = true ∧
      ∀ j, j < 31 → (Tab.getD d.doorLine.early j false && (d.door? j).isSome) = false) ∧
    (∀ m, (Tab.getD (doorRound 2).doorLine.early m false && ((doorRound 2).door? m).isSome) = false) ∧
    ((doorRound 2).doorLine.round = some 2 ∧ ((doorRound 2).door? 31).isSome = true ∧
      ∀ j, 2 < j → j < 31 → ((doorRound 2).door? j).isSome = false) ∧
    ((∀ j, 31 < j → ((doorRound 31).door? j).isSome = false) ∧ ((doorRound 31).door? 2).isSome = true ∧
      ∀ j, j < 2 → ((doorRound 31).door? j).isSome = false) ∧
    (let d : Device := { run with doorLine := { exchange := some 2 } }
     d.doorLine.exchange ≠ none ∧ ∀ m, (d.door? m).isSome = false) := by
  have between : ∀ j, j < 31 → 2 < j → ((doorRound 2).door? j).isSome = false := by decide +kernel
  refine ⟨rfl, rfl, by decide +kernel, ⟨by decide +kernel, by decide +kernel, by decide +kernel⟩, fun m => ?_,
    ⟨rfl, by decide +kernel, fun j h1 h2 => between j h2 h1⟩,
    ⟨doors_from _ 31 (by decide +kernel), by decide +kernel, by decide +kernel⟩, by decide +kernel, fun m => ?_⟩
  · have h : Tab.getD (doorRound 2).doorLine.early m false = false := getD_replicate 32 m false
    rw [h]; rfl
  · rcases Nat.lt_or_ge m 32 with h | h
    · have key : ∀ m, m < 32 → (run.door? m).isSome = false := by decide +kernel
      exact key m h
    · rw [door_above _ m h]; rfl

def plate : Sign :=
  { zone := 2, group := 7, bindings := #v[some 1, none, none, some 5], legend := .alarm, invert := false
    shown := Vector.replicate 6 .dark }

def withSign (d : Device) (n : Nat) (r : Sign) : Device := d.putSign n r

/-- Signs 2 and 63 on a line that is busy with sign 2, and whose round stands at `k`. -/
def signRound (k : Nat) : Device :=
  { withSign (withSign run 2 plate) 63 plate with signLine := { round := some k, sending := some 2 } }

theorem witness_LineRounds :
    run.up = true ∧ run.signLine.sending = none ∧ (signRound 2).signLine.sending ≠ none ∧
    (let d : Device := { signRound 2 with signLine := { sending := some 2, early := Tab.put (Vector.replicate 64 false) 63 true } }
     d.signLine.sending ≠ none ∧ (Tab.getD d.signLine.early 63 false && (d.sign? 63).isSome) = true ∧
      ∀ j, j < 63 → (Tab.getD d.signLine.early j false && (d.sign? j).isSome) = false) ∧
    (∀ m, (Tab.getD (signRound 2).signLine.early m false && ((signRound 2).sign? m).isSome) = false) ∧
    ((signRound 2).signLine.round = some 2 ∧ ((signRound 2).sign? 63).isSome = true ∧
      ∀ j, 2 < j → j < 63 → ((signRound 2).sign? j).isSome = false) ∧
    ((∀ j, 63 < j → ((signRound 63).sign? j).isSome = false) ∧ ((signRound 63).sign? 2).isSome = true ∧
      ∀ j, j < 2 → ((signRound 63).sign? j).isSome = false) ∧
    (let d : Device := { run with signLine := { sending := some 2 } }
     d.signLine.sending ≠ none ∧ ∀ m, (d.sign? m).isSome = false) := by
  have between : ∀ j, j < 63 → 2 < j → ((signRound 2).sign? j).isSome = false := by decide +kernel
  refine ⟨rfl, rfl, by decide +kernel, ⟨by decide +kernel, by decide +kernel, by decide +kernel⟩, fun m => ?_,
    ⟨rfl, by decide +kernel, fun j h1 h2 => between j h2 h1⟩,
    ⟨signs_from _ 63 (by decide +kernel), by decide +kernel, by decide +kernel⟩, by decide +kernel, fun m => ?_⟩
  · have h : Tab.getD (signRound 2).signLine.early m false = false := getD_replicate 64 m false
    rw [h]; rfl
  · rcases Nat.lt_or_ge m 64 with h | h
    · have key : ∀ m, m < 64 → (run.sign? m).isSome = false := by decide +kernel
      exact key m h
    · rw [sign_above _ m h]; rfl

theorem witness_TableTimers :
    (let r : Rule := { latched with outcome := .delaying ⟨0, 5⟩ }
     (ruled r).up = true ∧ (ruled r).rule? 127 = some r ∧ (ruled r).live 127 = true ∧ (⟨0, 5⟩ : Timer).due 5 = true ∧
      (⟨0, 5⟩ : Timer).due 4 = false ∧ ({ ruled r with nightSlots := 0 } : Device).live 127 = false) ∧
    (CallLaw calling ∧ waitingCall 7 ∈ calling.board.calls ∧ secondsSince 59 0 < 60 ∧ 60 ≤ secondsSince 60 0 ∧
      15 ≤ secondsSince 15 0) ∧
    ((grouped (.test 7 ⟨0, 2⟩)).group 7).state = .test 7 ⟨0, 2⟩ ∧ (⟨0, 2⟩ : Timer).due 2 = true ∧ (⟨0, 2⟩ : Timer).due 1 = false := by
  refine ⟨by decide +kernel, ⟨callLaw_calling, ?_⟩, ?_⟩ <;> decide +kernel

def passing (rerun stale : Bool) : Device :=
  { run with passages := building, route := { engine := .computing (some (shot [] true)), rerun := rerun, stale := stale } }

theorem witness_RoutePass :
    run.up = true ∧ run.route.engine.snapshot? = none ∧
    ((passing true true).up = true ∧ (passing true true).route.engine = .computing (some (shot [] true)) ∧
      (passing true true).route.stale = true) ∧
    ((passing true false).route.stale = false ∧ (passing true false).route.rerun = true) ∧
    (∀ n, n < 32 → (passing true false).door? n = none) ∧
    (∀ e, e < 128 → (after .routePassCompletion (passing true false)).rule? e = (passing true false).rule? e) := by decide +kernel

/-- Zone 2 with a sign beside the burning zone 1, and the door 3 on its passage to zone 4. -/
def signed (f : Fire) : Device :=
  { withSign (withZone (withZone (withDoor run 3 egress) 2 gallery) 1 { gallery with fire := f }) 63 plate with passages := building }

theorem witness_TriggersTaken :
    (run.route.engine = .idle ∧ (passing false false).route.engine = .computing (some (shot [] true)) ∧
      ({ run.route with engine := .computing none } : RouteEngine).engine = .computing none) ∧
    (idle.isRunning = false ∧ (signed .quiet).isRunning = true ∧ (signed .quiet).sign? 63 = some plate ∧ (signed .quiet).sign? 62 = none) ∧
    ((signed .quiet).zone? 1 = some { gallery with fire := .quiet } ∧ Fire.isAlarm .quiet = false ∧ burning.isAlarm = true ∧
      verifying.isAlarm = false ∧ Fire.isVerify .quiet ≠ verifying.isVerify) ∧
    (gallery.avoid = false ∧ Asked.act ≠ .nothing ∧ ({ gallery with avoid := true } : Zone).avoid = true) ∧
    (signed .quiet).door? 3 = some egress ∧
    QuietLaw (passing false false) ∧
    ∃ t, step ⟨passing false false, [.routePassCompletion]⟩ = .next t ∧ t.dev.route.engine ≠ (passing false false).route.engine := by
  refine ⟨by decide +kernel, by decide +kernel, by decide +kernel, by decide +kernel, by decide +kernel,
    fun h => absurd h (by decide +kernel), _, rfl, by decide +kernel⟩

def looped (p : Nat) (r : Point) : Device :=
  { withPoint run p r with
    loops := Tab.put (Vector.replicate 4 {}) (p / 64) { sweep := some (p % 64), exchange := some (.sweep (p % 64)) }
    classes := Tab.put (Vector.replicate 8 none) 0 (some class0) }

theorem witness_LoopExchanges :
    (∀ r ∈ [({} : Point), smoke 3200 63 1 .normal, { heat [1] 1 with misses := 2 }, { kind := .contact, enabled := true },
        { kind := .case, enabled := false }, { kind := .help, enabled := true, health := .drift }],
      (looped 255 r).up = true ∧ ((looped 255 r).loop 3).exchange = some (.sweep 63) ∧ (looped 255 r).point 255 = r) ∧
    (looped 255 (smoke 3200 63 1 .normal)).class? 0 = some class0 ∧
    (looped 255 (smoke 3200 63 1 .normal)).isRunning = true ∧
    (let d : Device := { looped 255 (smoke 3200 63 1 .normal) with
      loops := Tab.put (Vector.replicate 4 {}) 3 { sweep := some 62, exchange := some (.confirm 63), confirmQueue := [7] } }
     (d.loop 3).exchange = some (.confirm 63) ∧ (d.point 255).kind ≠ .absent ∧ ∀ b, b < 63 → (d.point (192 + b)).kind = .absent) ∧
    (let d : Device := { run with loops := Tab.put (Vector.replicate 4 {}) 3 { sweep := some 62, exchange := some (.sweep 62) } }
     (d.loop 3).exchange = some (.sweep 62) ∧ ∀ a, a < 64 → (d.point (192 + a)).kind = .absent) := by decide +kernel

/-! Judgements. -/

theorem witness_OutcomeTable :
    Combine.ofCode 15 = some .always ∧ Combine.ofCode 0 = some .never ∧
    ({ latched with delay := 0, outcome := .off } : Rule).delay = 0 ∧ 0 < latched.delay ∧ latched.latch = true ∧
    ({ latched with latch := false } : Rule).latch = false := by decide +kernel

theorem witness_SmokeReading :
    (smoke 3206 0 1 .pre).arith = some { baseline := 3206, learnt := true, readings := 0, confirm := 1 } ∧ 255 ≤ 255 ∧
    (10 * 256 ≤ 3206 ∧ 1 ≤ class0.tpNight ∧ class0.tpNight < class0.taNight) ∧
    (class0.taNight ≤ 36 - 3206 / 256 ∧ class0.tpNight ≤ 24 - 3206 / 256 ∧ 24 - 3206 / 256 < class0.taNight ∧
      23 - 3206 / 256 < class0.tpNight) ∧
    (smoke 3206 0 1 .active).condition = .active := by decide +kernel

theorem witness_SmokeDrift :
    ({ kind := .smoke, arith := some {} } : Point).arith = some {} ∧ ({} : Arith).learnt = false ∧
    (smoke 3200 63 0 .normal).arith = some { baseline := 3200, learnt := true, readings := 63 } ∧
    ((63 + 1) % 64 = 0 ∧ (evaluateSmoke class0 .night (smoke 3200 63 0 .normal) 14).condition = .normal ∧
      14 - 3200 / 256 ≤ class0.w ∧ (smoke 3200 63 0 .normal).health ≠ .drift) ∧
    (smoke 3200 5 0 .normal).arith = some { baseline := 3200, learnt := true, readings := 5 } := by decide +kernel

theorem witness_HeatReading :
    let ring := [100, 101, 101, 102, 104, 106, 108, 110]
    (heat ring 0).arith = some { ring := ring } ∧ ring.length = 8 ∧ class0.hf ≤ 116 ∧ (8 ≤ ring.length ∧ 100 + class0.hr ≤ 112) ∧
    (heat [1] 0).arith = some { ring := [1] } ∧ [1].length < 8 ∧ (106 < class0.hf ∧ class0.hf ≤ 106 + 10) ∧
    105 + 10 < class0.hf := by decide +kernel

theorem witness_FirePointJudged :
    (let d := ({ zoneWith .quiet 0 with regime := .day } : Device)
     d.zone? 47 = some { gallery with fire := .quiet } ∧ Condition.pre ≠ .active ∧ Fire.hot .quiet = false ∧ gallery.verify = true ∧
      d.regime = .day ∧ d.isAutonomous = false) ∧
    ((zoneWith .quiet 0).regime = .night) ∧
    ((zoneWith verifying 1).zone? 47 = some { gallery with fire := verifying, activeCount := 1 }) ∧
    ((zoneWith burning 1).zone? 47 = some { gallery with fire := burning, activeCount := 1 } ∧ burning.isAlarm = true) := by
  decide +kernel

/-- R67, R77: at the change to NIGHT a zone in UNSET_FAULT whose contact is open still and whose exit delay is 0 begins
setting, stays in UNSET_FAULT and queues its report. -/
theorem test_setRegime_reports_unset_fault_again :
    let z : Zone := { gallery with policy := .night, exitDelay := 0, openContacts := 1, security := .unsetFault }
    let d := after (.setRegime (hdr 3) [1]) { withZone run 47 z with regime := .day }
    (d.zone? 47).map (·.security) = some .unsetFault ∧
    d.link.reports.any (fun r => r.cls == .security && r.object == 47 && r.state == .zoneSecurity .unsetFault) = true := by
  decide +kernel

theorem witness_SecurityJudged :
    (guarded .armed 0).zone? 47 = some { gallery with security := .armed } ∧ Condition.normal ≠ .active ∧
    isSecurityKind .motion = true ∧ isSecurityKind .contact = true ∧ isSecurityKind .case = true ∧ gallery.policy ≠ .never ∧
    gallery.fire.hot = false ∧ 0 < gallery.entryDelay ∧
    (guarded intruded 0).zone? 47 = some { gallery with security := intruded } ∧
    ((zoneAt 0 burning .armed).zone? 47 = some { gallery with fire := burning, security := .armed } ∧ burning.hot = true) ∧
    ((zoneAt 0 burning .off).zone? 47 = some { gallery with fire := burning } ∧ (zoneAt 0 burning .off).isRunning = true) ∧
    ((guarded (.entry ⟨0, 20⟩ (.door 9)) 0).isRunning = true ∧
      (guarded (.entry ⟨0, 20⟩ (.door 9)) 0).zone? 47 = some { gallery with security := .entry ⟨0, 20⟩ (.door 9) }) ∧
    ({ gallery with entryDelay := 0 } : Zone).entryDelay = 0 ∧
    (∀ r ∈ [heardDoor .closed .unlocked .free .unlock, heardDoor .closed .locked .secure .lock, heardLeaf .closed .secure .close],
      (withDoor run 9 r).door? 9 = some r ∧ r.health = .ok ∧ r.condition ≠ none ∧ r.leaf ≠ some .opened) := by decide +kernel

theorem witness_PressTaken :
    CallLaw calling ∧ CallLaw crowd ∧
    (waitingCall 7 ∈ calling.board.calls ∧ (waitingCall 7).point = 67 ∧ (waitingCall 7).repeats < 15) ∧
    (let d : Device := { run with board := { calls := [{ waitingCall 7 with repeats := 15 }] } }
     CallLaw d ∧ ∀ c ∈ d.board.calls, c.point = 67 ∧ 15 ≤ c.repeats) ∧
    100 ∈ crowd.board.waitingPoints ∧
    ((∀ c ∈ crowd.board.calls, c.point ≠ 33) ∧ 33 ∉ crowd.board.waitingPoints ∧ crowd.board.calls.length = 16) ∧
    ((∀ c ∈ calling.board.calls, c.point ≠ 33) ∧ calling.board.calls.length < 16) := by
  refine ⟨callLaw_calling, callLaw_crowd, by decide +kernel,
    ⟨callLaw_of _ rfl rfl (by decide +kernel) (by decide +kernel), by decide +kernel⟩, ?_⟩
  decide +kernel

/-- Zones 2 and 1 with a plan published that sends zone 2 to zone 1 by passage 1, and the sign 63 of group 7. -/
def planned (x : GroupState) : Device :=
  let d : Device := { signed .quiet with
    doors := Vector.replicate 32 none
    groups := Tab.put (Vector.replicate 8 {}) 7 { testLength := 8, state := x }
    route := { planNumber := 1, plan := some { work := (shot [] true).pass building, number := 1, stamp := 0 } } }
  d.putSign 63 { plate with shown := d.shownFor plate }

theorem witness_SignShown :
    idle.isRunning = false ∧ ((planned .stopped).group plate.group).state = .stopped ∧
    (run.group plate.group).state = .run ∧ run.route.plan = none ∧
    ((planned (.test 5 ⟨0, 2⟩)).isRunning = true ∧ ((planned (.test 5 ⟨0, 2⟩)).group plate.group).state = .test 5 ⟨0, 2⟩) ∧
    ((planned .run).isRunning = true ∧ ((planned .run).group plate.group).state = .run ∧
      (planned .run).route.plan = some { work := (shot [] true).pass building, number := 1, stamp := 0 } ∧
      (planned .run).zone? plate.zone = some gallery ∧ gallery.kind ≠ .exit ∧
      ((Tab.get? ((shot [] true).pass building).entries plate.zone).map fun e => (e.distance, e.next.map (·.passage))) =
        some (30, some 1) ∧
      Tab.get? ((shot [] true).pass building).entries 6 = none) := by decide +kernel

/-! Laws of every state: a state in RUNNING or COMMISSIONING that a step leaves, where the law says something. -/

/-- The EGRESS door 3 beside zone 2 in ALARM, open by LIFE over a STATION demand. -/
def released : Device :=
  { withZone (withDoor run 3 {
      egress with
      demands := { life := some .unlock, station := some { drive := .lock, station := 4, timer := none } }
      drive := .unlock, level := .life }) 2 { gallery with fire := burning, activeCount := 1 } with passages := building }

theorem lifeLaw_released : LifeLaw released := by
  intro _ n r h
  have key : ∀ m, m < 32 → (released.door? m).all (fun r => decide (
      (r.kind = .egress → r.demands.life = if released.doorTouches m Fire.isAlarm then some .unlock else none) ∧
      (r.kind = .fireLeaf → r.demands.life = if released.doorTouches m Fire.hot then some .close else none) ∧
      (r.kind = .strongroom → r.demands.life = none) ∧ (r.drive, r.level) = r.demands.top r.kind)) = true := by decide +kernel
  have k := key n (Tab.get?_lt h)
  rw [h] at k
  exact of_decide_eq_true k

theorem witness_LifeKept :
    LifeLaw released ∧ (∃ t, step ⟨released, [.timeBaseTick]⟩ = .next t) ∧ released.isRunning = true ∧
    (released.door? 3).isSome = true ∧ (released.passage? 5).isSome = true ∧ (released.fire 2).isAlarm = true :=
  ⟨lifeLaw_released, ⟨_, rfl⟩, by decide +kernel⟩

/-- NIGHT: door 3 under the INTRUSION demand of its night-lock flag, and zone 3 with a call that waits. -/
def watched : Device :=
  { withZone (withDoor run 3 { egress with demands := { intrusion := some .lock }, level := .intrusion }) 3
      { gallery with callWaiting := true } with
    board := { calls := [claimedCall 5 1, waitingCall 7], callCounter := 8 } }

theorem intrusionLaw_watched : IntrusionLaw watched := fun _ n r h => by
  · have key : ∀ m, m < 32 → (watched.door? m).all (fun r => decide (r =
        { egress with demands := { intrusion := some .lock }, level := .intrusion })) = true := by decide +kernel
    have k := key n (Tab.get?_lt h)
    rw [h] at k
    obtain rfl := of_decide_eq_true k
    decide +kernel

theorem callFlagLaw_watched : CallFlagLaw watched := fun _ z r h => by
  · have key : ∀ m, m < 48 → (watched.zone? m).all (fun r => decide (m = 3 ∧ r = { gallery with callWaiting := true })) = true := by
      decide +kernel
    have k := key z (Tab.get?_lt h)
    rw [h] at k
    obtain ⟨hz3, hr⟩ : z = 3 ∧ r = { gallery with callWaiting := true } := of_decide_eq_true k
    subst hz3; subst hr
    refine ⟨⟨fun _ => ⟨waitingCall 7, by decide +kernel, rfl, fun owner h => by cases h⟩, fun _ => rfl⟩,
      ⟨fun h => (by cases h), fun h => ?_⟩⟩
    have none : ∀ c ∈ watched.board.calls, ¬(c.zone = 3 ∧ c.state = .escalated) := by decide +kernel
    obtain ⟨c, hc, hz⟩ := h
    exact absurd hz (none c hc)

theorem rankLaw_watched : RankLaw watched := fun _ => by decide +kernel

theorem witness_ReadersKept :
    IntrusionLaw watched ∧ CallFlagLaw watched ∧ RankLaw watched ∧ ∃ t, step ⟨watched, [.setRegime (hdr 3) [0]]⟩ = .next t :=
  ⟨intrusionLaw_watched, callFlagLaw_watched, rankLaw_watched, _, rfl⟩

/-- A call waits in zone 3, and entry 127 reads the flag. -/
def calledRule (o : RuleOutcome) : Rule :=
  { enabled := true, latch := true, a := .zone 3 .callWaiting, b := .global .yes, fn := .a, delay := 5, effect := .relay 3
    outcome := o }

def called (o : RuleOutcome) : Device :=
  { watched with rules := Tab.put (Vector.replicate 128 none) 127 (some (calledRule o)), nightSlots := 1, clock := 7 }

/-- The expiry of the delay of entry 127 and CLEAR_LATCHES, in a state that keeps the laws of calls. -/
theorem witness_RulesKept_sets (o : RuleOutcome) : CallFlagLaw (called o) ∧ RankLaw (called o) :=
  ⟨callFlagLaw_watched, rankLaw_watched⟩

theorem witness_RulesKept_sets_live :
    (∀ o ∈ [RuleOutcome.delaying ⟨0, 5⟩, .on],
      (called o).rule? 127 = some (calledRule o) ∧ (called o).live 127 = true ∧ (called o).link.restartReplySent = false ∧
      (after (.ruleDelayExpiry 127) (called o)).live 127 = true ∧ (after (.clearLatches (hdr 3) []) (called o)).live 127 = true) ∧
    ((after (.ruleDelayExpiry 127) (called (.delaying ⟨0, 5⟩))).rule? 127).map (·.outcome) = some .on := by decide +kernel

/-- Entry 127 is ON and energises relay 3. -/
def wired : Device := { ruled latched with relays := Tab.put (Vector.replicate 16 false) 3 true }

theorem wired_rule {e : Nat} {r : Rule} (h : wired.rule? e = some r) : e = 127 ∧ r = latched := by
  have key : ∀ m, m < 128 → (wired.rule? m).all (fun r => decide (m = 127 ∧ r = latched)) = true := by decide +kernel
  have k := key e (Tab.get?_lt h)
  rw [h] at k
  exact of_decide_eq_true k

theorem wired_asserts (x : Effect) : wired.asserts x ↔ x = .relay 3 := by
  constructor
  · rintro ⟨e, r, h, _, rfl⟩
    rw [(wired_rule h).2]
    rfl
  · rintro rfl
    exact ⟨127, latched, by decide +kernel, rfl, rfl⟩

theorem witness_TargetsKept :
    TargetLaw wired ∧ wired.up = true ∧ wired.isRunning = true ∧ ∃ t, step ⟨wired, [.clearLatches (hdr 3) []]⟩ = .next t := by
  refine ⟨fun _ _ => ⟨fun n r h => ?_, fun c _ => ?_, fun k hk => ?_, fun z r h => ?_⟩, rfl, rfl, _, rfl⟩
  · have key : ∀ m, m < 32 → wired.door? m = none := by decide +kernel
    rw [key n (Tab.get?_lt h)] at h
    cases h
  · have key : ∀ c, wired.sounder c = {} := fun c => getD_replicate 16 c ({} : Sounder)
    rw [key c, wired_asserts]
    simp
  · have key : ∀ k, k < 16 → (Tab.getD wired.relays k false = true ↔ k = 3) := by decide +kernel
    rw [wired_asserts, key k hk]
    simp
  · have key : ∀ m, m < 48 → wired.zone? m = none := by decide +kernel
    rw [key z (Tab.get?_lt h)] at h
    cases h

theorem witness_RulesKept :
    (SettledLaw wired ∧ ∃ t, step ⟨wired, [.mainsChange true]⟩ = .next t) ∧ CommitLaw wired ∧ latched.readable ∧ wired.rule? 127 = some latched ∧
    (let d : Device := { wired with regime := .day }
     d.live 127 = false ∧ (after (.setRegime (hdr 3) [1]) d).live 127 = true) ∧
    (wired.live 127 = true ∧ wired.link.restartReplySent = false ∧ (after (.mainsChange true) wired).live 127 = true ∧
      wired.operand latched.a ≠ (after (.mainsChange true) wired).operand latched.a) ∧
    ((after .timeBaseTick wired).live 127 = true ∧ wired.operand latched.a = (after .timeBaseTick wired).operand latched.a ∧
      wired.operand latched.b = (after .timeBaseTick wired).operand latched.b) := by
  refine ⟨⟨fun e r h _ _ => ?_, _, rfl⟩, fun h => absurd rfl h, fun z => ⟨fun h => (by cases h), fun h => by cases h⟩, by decide +kernel, by decide +kernel,
    by decide +kernel, by decide +kernel⟩
  obtain ⟨he, hr⟩ := wired_rule h
  subst he; subst hr
  have ht : wired.truth latched = false := by decide +kernel
  exact ⟨fun h => (by rw [ht] at h; cases h), fun _ => .inr ⟨rfl, rfl⟩⟩

theorem witness_CallsKept : CallLaw crowd ∧ ∃ t, step ⟨crowd, [.closeCall (hdr 2) [0]]⟩ = .next t :=
  ⟨callLaw_crowd, ⟨_, rfl⟩⟩

/-- Point 255 alone, ACTIVE in zone 3, which counts it. -/
def countedZone : Device := withZone (withPoint run 255 (smoke 3200 0 2 .active)) 3 { gallery with activeCount := 1, fire := burning }

theorem witness_CountsKept :
    QuietLaw countedZone ∧ CountLaw countedZone ∧ ∃ t, step ⟨countedZone, [.disablePoint (hdr 3) [255]]⟩ = .next t := by
  refine ⟨fun h => absurd h (by decide +kernel), ⟨fun p hp => ?_, fun z r h => ?_⟩, _, rfl⟩
  · rcases Nat.lt_or_ge p 256 with hl | hl
    · have key : ∀ p, p < 256 → (countedZone.point p).kind = .absent → countedZone.point p = {} := by decide +kernel
      exact key p hl hp
    · simp [Device.point, Tab.getD, Nat.not_lt.mpr hl]
  · have key : ∀ m, m < 48 → (countedZone.zone? m).all (fun r => decide (
        r.preCount = countedZone.countPoints (fun p => isFireKind p.kind && p.zone == m && p.condition == .pre) ∧
        r.activeCount = countedZone.countPoints (fun p => isFireKind p.kind && p.zone == m && p.condition == .active) ∧
        r.faultCount = countedZone.countPoints (fun p => p.kind != .absent && p.zone == m && p.health != .ok) ∧
        r.openContacts = countedZone.countPoints (fun p => p.kind == .contact && p.zone == m && p.condition == .active) ∧
        r.openCases = countedZone.countPoints (fun p => p.kind == .case && p.zone == m && p.condition == .active))) = true := by
      decide +kernel
    have k := key z (Tab.get?_lt h)
    rw [h] at k
    exact of_decide_eq_true k

theorem loopLaw_looped : LoopLaw (looped 255 (smoke 3200 63 1 .normal)) := by
  intro _ l a hl ha
  have key : ∀ l, l < 4 → ∀ a, a < 64 → (looped 255 (smoke 3200 63 1 .normal)).configured l a = true →
      ((looped 255 (smoke 3200 63 1 .normal)).loop l).exchange ≠ none := by decide +kernel
  exact key l hl a ha

theorem witness_SignsKept :
    QuietLaw (planned .run) ∧ SignLaw (planned .run) ∧
    ((planned .run).sign? 63).map (fun r => Tab.getD r.shown 0 .dark) = some .steady ∧
    ∃ t, step ⟨planned .run, [.groupStop (hdr 3) [7]]⟩ = .next t := by
  have quiet : ∀ z, (planned .run).blocked z = false := fun z => by
    rcases Nat.lt_or_ge z 48 with h | h
    · have key : ∀ z, z < 48 → (planned .run).blocked z = false := by decide +kernel
      exact key z h
    · simp [Device.blocked, Device.zone?, Tab.get?, Nat.not_lt.mpr h]
  have free : ∀ n, (planned .run).shut n = false := fun n => by
    rcases Nat.lt_or_ge n 32 with h | h
    · have key : ∀ n, n < 32 → (planned .run).shut n = false := by decide +kernel
      exact key n h
    · simp [Device.shut, Device.door?, Tab.get?, Nat.not_lt.mpr h]
  refine ⟨fun h => absurd h (by decide +kernel), ⟨fun n r h => ?_, fun n r e x k _ _ _ _ _ h => ?_, fun s h => ?_⟩,
    by decide +kernel, _, rfl⟩
  · have key : ∀ m, m < 64 → ((planned .run).sign? m).all (fun r => decide (r.shown = (planned .run).shownFor r)) = true := by
      decide +kernel
    have k := key n (Tab.get?_lt h)
    rw [h] at k
    exact of_decide_eq_true k
  · obtain ⟨q, _, _, hb | ⟨m, _, hm⟩⟩ := h
    · rw [quiet] at hb; cases hb
    · rw [free] at hm; cases hm
  · exact absurd h (by simp [planned, signed, withSign, withZone, withDoor, Device.putSign, Device.putZone, Device.putDoor])

/-- A pass under way on the six zones as they are loaded. -/
def sixZones : Device :=
  { passing false false with
    zones := Tab.build 48 fun z =>
      if z < 6 then some { gallery with kind := if z = 0 ∨ z = 5 then .exit else .gallery } else none }

theorem witness_PlanSound :
    PublishedLaw sixZones ∧ (∃ t, step ⟨sixZones, [.routePassCompletion]⟩ = .next t ∧ t.dev.route.plan ≠ none) ∧
    (shot [] true).zone? 47 = none := by
  refine ⟨⟨fun h => absurd h (by decide +kernel), fun s h => ?_, fun p h => by cases h⟩, ⟨_, rfl, by decide +kernel⟩, by decide +kernel⟩
  obtain rfl : shot [] true = s := by
    have : (Engine.computing (some (shot [] true))) = .computing (some s) := h
    cases this; rfl
  intro z
  rcases Nat.lt_or_ge z 48 with hz | hz
  · have key : ∀ z, z < 48 → (((shot [] true).zone? z).map (·.exit) = (sixZones.zone? z).map (fun r => r.kind == .exit)) ∧
        ((shot [] true).zone? z).all (fun v => v.penalty == 0) = true := by decide +kernel
    refine ⟨(key z hz).1, fun v hv => .inl ?_⟩
    have k := (key z hz).2
    rw [hv] at k
    simpa using k
  · simp [Snapshot.zone?, Device.zone?, Tab.get?, Nat.not_lt.mpr hz]

theorem witness_PointsKept :
    (BaselineLaw (looped 255 (smoke 3200 63 1 .normal)) ∧ ConfirmLaw (looped 255 (smoke 3200 63 1 .normal)) ∧
      LoopLaw (looped 255 (smoke 3200 63 1 .normal))) ∧
    ∃ t, step ⟨looped 255 (smoke 3200 63 1 .normal), [.loopAnswer 3 (some .smoke) 14 false]⟩ = .next t := by
  refine ⟨⟨?_, ?_, loopLaw_looped⟩, ⟨_, rfl⟩⟩
  · intro p a _ ha
    by_cases hp : p = 255
    · subst hp
      have h1 : ((looped 255 (smoke 3200 63 1 .normal)).point 255).arith =
          some { baseline := 3200, learnt := true, readings := 63, confirm := 1 } := by decide +kernel
      rw [h1] at ha
      cases ha
      refine ⟨fun h => by simp at h, fun c hc => ?_⟩
      have h2 : (looped 255 (smoke 3200 63 1 .normal)).class? ((looped 255 (smoke 3200 63 1 .normal)).point 255).cls =
          some class0 := by decide +kernel
      rw [h2] at hc
      cases hc
      decide
    · exfalso
      have h1 : (looped 255 (smoke 3200 63 1 .normal)).point p = ({} : Point) := by
        simp only [looped, withPoint, run, Device.point, Device.putPoint, Tab.getD_put]
        rw [if_neg (by omega)]
        by_cases hq : p < 256 <;> simp [Tab.getD, hq]
      rw [h1] at ha
      cases ha
  · intro l hl
    have key : ∀ l, l < 4 → ((looped 255 (smoke 3200 63 1 .normal)).loop l).confirmQueue = [] ∧
        (((looped 255 (smoke 3200 63 1 .normal)).loop l).exchange.all fun x => decide (x.addr < 64)) = true := by decide +kernel
    obtain ⟨h1, h2⟩ := key l hl
    rw [h1]
    refine ⟨by decide, by simp, by simp, fun x hx => ?_⟩
    rw [hx] at h2
    simpa using h2

theorem witness_TablesKept :
    RuleLaw { ruled { latched with outcome := .off } with nightSlots := 0 } ∧ TestLaw (withZone (grouped .stopped) 3 { gallery with fire := burning }) ∧
    ReportLaw { run with link := crowded } ∧ (CommitLaw committing ∧ committing.link.commit ≠ none) ∧ ∃ t, step ⟨run, [.timeBaseTick]⟩ = .next t := by
  refine ⟨?_, ?_, ?_, ⟨fun _ => by decide +kernel, by decide +kernel⟩, ⟨_, rfl⟩⟩
  · intro e r h _
    have key : ∀ m, m < 128 →
        (({ ruled { latched with outcome := .off } with nightSlots := 0 } : Device).rule? m).all (fun r => r.outcome == .off) = true := by
      decide +kernel
    have k := key e (Tab.get?_lt h)
    rw [h] at k
    simpa using k
  · intro _
    decide +kernel
  · unfold ReportLaw
    decide +kernel

theorem witness_QuietKept :
    QuietLaw (withZone idle 3 gallery) ∧ ∃ t, step ⟨withZone idle 3 gallery, [.timeBaseTick]⟩ = .next t := by
  refine ⟨fun _ => ⟨fun p => ?_, fun z r h => ?_, rfl, fun c => ?_, fun k => ?_, rfl, rfl⟩, ⟨_, rfl⟩⟩
  · simp only [withZone, idle, Device.point, Device.putZone, Tab.getD]
    by_cases hp : p < 256 <;> simp [hp]
  · have key : ∀ m, m < 48 → ((withZone idle 3 gallery).zone? m).all (fun r => decide (r.fire = .quiet ∧ r.security = .off ∧
        r.preCount = 0 ∧ r.activeCount = 0 ∧ r.openContacts = 0 ∧ r.openCases = 0)) = true := by decide +kernel
    have k := key z (Tab.get?_lt h)
    rw [h] at k
    simpa using k
  · simp only [withZone, idle, Device.sounder, Device.putZone, Tab.getD]
    by_cases hp : c < 16 <;> simp [hp]
  · simp only [withZone, idle, Device.putZone, Tab.getD]
    by_cases hp : k < 16 <;> simp [hp]

end Sys2Proof.Tests
end

/-! SUPPORT. Chapter 2, the detection arithmetic: the judgement of a reading by its level, the levels of smoke and heat
readings, the drift of a baseline and the heat ring; and the statements about SMOKE and HEAT readings settled from them. -/

namespace Sys2Proof.Machine

/-! ### The judgement of a reading (R26, R27), one equation for each level -/

theorem judgeReading_alarm (k : Nat) (c : Condition) (n : Nat) (clear : Bool) :
    judgeReading k c n clear .alarm =
      ⟨if c = .active ∨ min (n + 1) k = k then .active else .pre, min (n + 1) k, false⟩ := by
  cases c <;> simp [judgeReading]

theorem judgeReading_pre (k : Nat) (c : Condition) (n : Nat) (clear : Bool) :
    judgeReading k c n clear .pre = ⟨if c = .active then .active else .pre, 0, false⟩ := by
  cases c <;> rfl

theorem judgeReading_active_low (k n : Nat) (clear : Bool) :
    judgeReading k .active n clear .low = ⟨if clear then .normal else .active, 0, !clear⟩ := by
  cases clear <;> rfl

theorem judgeReading_low_of_ne_active (k n : Nat) (clear : Bool) {c : Condition} (h : c ≠ .active) :
    judgeReading k c n clear .low = ⟨.normal, 0, false⟩ := by
  cases c with
  | active => exact absurd rfl h
  | normal => rfl
  | pre => rfl

/-- The part of an evaluation that the judgement of R26 and R27 decides. -/
def Evaluated.judged (e : Evaluated) : Judged := ⟨e.condition, e.arith.confirm, e.clear⟩

theorem Evaluated.judged_eq_iff {e : Evaluated} {c : Condition} {n : Nat} {clear : Bool} :
    e.judged = ⟨c, n, clear⟩ ↔ e.arith.confirm = n ∧ e.condition = c ∧ e.clear = clear := by
  simp [Evaluated.judged, and_left_comm]

/-- The judgement of a point's reading at a level: its confirm count is in its arithmetic part, the rest in its record. -/
def Point.judgedAt (p : Point) (c : ClassRec) (a : Arith) (level : ReadingLevel) : Judged :=
  judgeReading c.k p.condition a.confirm p.clearMark level

/-! What an evaluation leaves when it judged its reading at a level, for SMOKE and HEAT alike. -/
section JudgedAt
variable {e : Evaluated} {p : Point} {c : ClassRec} {a : Arith} {level : ReadingLevel}

theorem Evaluated.of_judged_alarm (h : e.judged = p.judgedAt c a level) (hl : level = .alarm) :
    e.arith.confirm = min (a.confirm + 1) c.k ∧
      e.condition = (if p.condition = .active ∨ min (a.confirm + 1) c.k = c.k then .active else .pre) ∧ e.clear = false := by
  rw [hl, Point.judgedAt, judgeReading_alarm] at h
  exact Evaluated.judged_eq_iff.mp h

theorem Evaluated.of_judged_pre (h : e.judged = p.judgedAt c a level) (hl : level = .pre) :
    e.arith.confirm = 0 ∧ e.condition = (if p.condition = .active then .active else .pre) ∧ e.clear = false := by
  rw [hl, Point.judgedAt, judgeReading_pre] at h
  exact Evaluated.judged_eq_iff.mp h

theorem Evaluated.of_judged_active_low (h : e.judged = p.judgedAt c a level) (hl : level = .low)
    (hp : p.condition = .active) :
    e.arith.confirm = 0 ∧ e.condition = (if p.clearMark then .normal else .active) ∧ e.clear = !p.clearMark := by
  rw [hl, Point.judgedAt, hp, judgeReading_active_low] at h
  exact Evaluated.judged_eq_iff.mp h

theorem Evaluated.of_judged_low_of_ne_active (h : e.judged = p.judgedAt c a level) (hl : level = .low)
    (hp : p.condition ≠ .active) : e.arith.confirm = 0 ∧ e.condition = .normal ∧ e.clear = false := by
  rw [hl, Point.judgedAt, judgeReading_low_of_ne_active _ _ _ hp] at h
  exact Evaluated.judged_eq_iff.mp h

end JudgedAt

/-! ### The level of a compensated value (R30) -/

theorem smokeLevel_of_ta_le {tp ta v : Nat} (h : ta ≤ v) : smokeLevel tp ta v = .alarm := if_pos h

theorem smokeLevel_of_between {tp ta v : Nat} (hp : tp ≤ v) (ha : v < ta) : smokeLevel tp ta v = .pre := by
  simp [smokeLevel, hp, ha]

theorem smokeLevel_of_lt {tp ta v : Nat} (hp : v < tp) (h : tp < ta) : smokeLevel tp ta v = .low := by
  simp [smokeLevel, Nat.not_le.mpr hp, Nat.not_le.mpr (hp.trans h)]

theorem Arith.compensated_eq_zero {a : Arith} {r : Nat} (h : r * 256 ≤ a.baseline) : a.compensated r = 0 := by
  unfold Arith.compensated
  omega

/-! ### The two evaluations of a SMOKE point (R29, R30) -/

section Smoke
variable {p : Point} {a : Arith} (c : ClassRec) (regime : Regime) (r : Nat)

theorem evaluateSmoke_unlearnt (hp : p.arith = some a) (hl : a.learnt = false) :
    evaluateSmoke c regime p r = learnBaseline c p a r := by
  simp [evaluateSmoke, hp, hl]

theorem evaluateSmoke_learnt (hp : p.arith = some a) (hl : a.learnt = true) :
    evaluateSmoke c regime p r = judgeSmoke c regime p a r := by
  simp [evaluateSmoke, hp, hl]

variable (p a)

theorem judgeSmoke_judged : (judgeSmoke c regime p a r).judged =
    p.judgedAt c a (smokeLevel (c.thresholds regime).1 (c.thresholds regime).2 (a.compensated r)) := rfl

/-! ### Drift of the baseline (R31 to R33) -/

/-- A learnt reading moves the baseline: the count comes back to 0, and the point is then NORMAL, in clean air and not in
DRIFT (R31). -/
def DriftDue : Prop :=
  (a.readings + 1) % 64 = 0 ∧ (judgeSmoke c regime p a r).condition = .normal ∧ a.compensated r ≤ c.w ∧ p.health ≠ .drift

variable {c regime p a r}

theorem judgeSmoke_of_not_driftDue (h : ¬DriftDue p a c regime r) :
    (judgeSmoke c regime p a r).arith.baseline = a.baseline ∧ (judgeSmoke c regime p a r).drifts = false := by
  simp only [DriftDue, judgeSmoke] at h ⊢
  simp [h]

theorem judgeSmoke_of_driftDue (h : DriftDue p a c regime r) :
    (judgeSmoke c regime p a r).arith.baseline = min c.baselineLimit (driftStep a.baseline r) ∧
      ((judgeSmoke c regime p a r).drifts = true ↔ c.baselineLimit < driftStep a.baseline r) := by
  simp only [DriftDue, judgeSmoke] at h ⊢
  simp [h, min_def_lt]

end Smoke

/-- The quotient of R32 is truncated toward zero: a negative gap is divided as its magnitude. -/
theorem tdiv_64_eq (gap : Int) : gap.tdiv 64 = if 0 ≤ gap then gap / 64 else -(-gap / 64) := by
  split_ifs with h
  · exact Int.tdiv_eq_ediv_of_nonneg h
  · rw [← Int.tdiv_eq_ediv_of_nonneg (by omega), Int.neg_tdiv, neg_neg]

/-- The sum is never below 0, since a negative step is at most a 64th of the baseline (R32). -/
theorem driftStep_eq (baseline r : Nat) : (driftStep baseline r : Int) =
    baseline + (if 0 ≤ (256 * r : Int) - baseline then ((256 * r : Int) - baseline) / 64
      else -(-((256 * r : Int) - baseline) / 64)) := by
  rw [driftStep, Nat.cast_mul, Nat.cast_ofNat, mul_comm (r : Int), tdiv_64_eq]
  exact Int.toNat_of_nonneg (by split_ifs <;> omega)

/-! ### The heat ring and the level of a heat reading (R35, R36) -/

theorem pushRing_of_length_lt {ring : List Nat} (h : Nat) (hl : ring.length < 8) : pushRing ring h = ring ++ [h] := if_pos hl

theorem pushRing_of_full {ring : List Nat} (h : Nat) (hl : ring.length = 8) : pushRing ring h = ring.tail ++ [h] := by
  simp [pushRing, hl]

theorem risesBy_iff {ring : List Nat} {h hr : Nat} :
    risesBy ring h hr = true ↔ ∃ oldest rest, ring = oldest :: rest ∧ 8 ≤ ring.length ∧ oldest + hr ≤ h := by
  cases ring with
  | nil => simp [risesBy]
  | cons oldest rest => simp [risesBy]

section Heat
variable {c : ClassRec} {ring : List Nat} {h : Nat}

theorem heatLevel_alarm (hl : c.hf ≤ h ∨ risesBy ring h c.hr = true) : heatLevel c ring h = .alarm := if_pos hl

theorem heatLevel_pre (hf : h < c.hf) (hr : ¬risesBy ring h c.hr = true) (hp : c.hf ≤ h + 10) :
    heatLevel c ring h = .pre := by
  have margin : c.hf - heatPreMargin ≤ h := by unfold heatPreMargin; omega
  simp [heatLevel, hf, hr, margin]

theorem heatLevel_low (hf : h < c.hf) (hr : ¬risesBy ring h c.hr = true) (hp : h + 10 < c.hf) :
    heatLevel c ring h = .low := by
  have margin : ¬c.hf - heatPreMargin ≤ h := by unfold heatPreMargin; omega
  simp [heatLevel, hf, hr, margin]

theorem evaluateHeat_judged {p : Point} {a : Arith} (c : ClassRec) (h : Nat) (hp : p.arith = some a) :
    (evaluateHeat c p h).judged = p.judgedAt c a (heatLevel c a.ring h) := by
  simp [evaluateHeat, hp, Evaluated.judged, Point.judgedAt]

theorem evaluateHeat_ring {p : Point} {a : Arith} (c : ClassRec) (h : Nat) (hp : p.arith = some a) :
    (evaluateHeat c p h).arith.ring = pushRing a.ring h := by
  simp [evaluateHeat, hp]

end Heat

/-! ### The statements -/

/-- Settles O42: the level of the compensated value by the regime's thresholds, then the judgement at that level. -/
theorem smokeReading : Obligations.SmokeReading := by
  intro c regime p a r harith hlearnt hr v tp ta e
  have hth : c.thresholds regime = (tp, ta) := by cases regime <;> rfl
  have hj : e.judged = p.judgedAt c a (smokeLevel tp ta v) := by
    have h := judgeSmoke_judged p a c regime r
    rwa [← evaluateSmoke_learnt c regime r harith hlearnt, hth] at h
  refine ⟨(Nat.sub_le _ _).trans hr, fun hb htp _ => ?_, fun hp => ⟨fun ha => ?_, fun htp hta => ?_, fun hlow h => ?_⟩,
    fun hp => ⟨fun ha => ?_, fun htp hta => ?_, fun hlow h => ?_⟩⟩
  · have hv : v = 0 := Arith.compensated_eq_zero hb
    omega
  · simpa [hp] using Evaluated.of_judged_alarm hj (smokeLevel_of_ta_le ha)
  · simpa [hp] using Evaluated.of_judged_pre hj (smokeLevel_of_between htp hta)
  · exact Evaluated.of_judged_low_of_ne_active hj (smokeLevel_of_lt hlow h) hp
  · simpa [hp] using Evaluated.of_judged_alarm hj (smokeLevel_of_ta_le ha)
  · simpa [hp] using Evaluated.of_judged_pre hj (smokeLevel_of_between htp hta)
  · obtain ⟨hn, hc, hm⟩ := Evaluated.of_judged_active_low hj (smokeLevel_of_lt hlow h) hp
    exact ⟨hn, hm, hc⟩

/-- Settles O43: learning once, then the drift of a learnt baseline as `DriftDue` says. -/
theorem smokeDrift : Obligations.SmokeDrift := by
  intro c regime p a r harith _ e gap moved clean
  refine ⟨fun hl => ?_, fun hl => ?_⟩
  · have he : e = learnBaseline c p a r := evaluateSmoke_unlearnt c regime r harith hl
    simp [he, learnBaseline, ClassRec.baselineLimit, mul_comm]
  · have he : e = judgeSmoke c regime p a r := evaluateSmoke_learnt c regime r harith hl
    have hclean : clean ↔ DriftDue p a c regime r := by simp only [clean, he, DriftDue, Arith.compensated]
    have hmoved : (driftStep a.baseline r : Int) = moved := driftStep_eq a.baseline r
    refine ⟨by rw [he]; exact hl, by rw [he]; rfl, fun h => ?_, fun h => ?_⟩
    · rw [he]
      exact judgeSmoke_of_not_driftDue (mt hclean.mpr h)
    · obtain ⟨hb, hd⟩ := judgeSmoke_of_driftDue (hclean.mp h)
      rw [he, hb, hd, ← hmoved, ClassRec.baselineLimit]
      omega

/-- Settles O44: the ring, and the judgement at the heat level, whose rise is that of `risesBy_iff`. -/
theorem heatReading : Obligations.HeatReading := by
  intro c p a h harith e rises n
  have hring : e.arith.ring = pushRing a.ring h := evaluateHeat_ring c h harith
  have hj : e.judged = p.judgedAt c a (heatLevel c a.ring h) := evaluateHeat_judged c h harith
  have hrise : risesBy a.ring h c.hr = true ↔ rises := risesBy_iff
  rw [← hrise]
  refine ⟨fun hl => ?_, fun oldest rest ho hl => ?_, fun ha => ?_, fun hf hr hp => ?_, fun hf hr hp => ?_⟩
  · rw [hring, pushRing_of_length_lt h hl]
  · rw [hring, pushRing_of_full h hl, ho, List.tail_cons]
  · obtain ⟨hn, hc, hm⟩ := Evaluated.of_judged_alarm hj (heatLevel_alarm ha)
    exact ⟨hn, hm, hc⟩
  · obtain ⟨hn, hc, hm⟩ := Evaluated.of_judged_pre hj (heatLevel_pre hf hr hp)
    exact ⟨hn, hm, hc⟩
  · have hlow := heatLevel_low hf hr hp
    by_cases hact : p.condition = .active
    · obtain ⟨hn, hc, hm⟩ := Evaluated.of_judged_active_low hj hlow hact
      exact ⟨hn, fun h => absurd hact h, fun _ => ⟨hm, hc⟩⟩
    · obtain ⟨hn, hc, hm⟩ := Evaluated.of_judged_low_of_ne_active hj hlow hact
      exact ⟨hn, fun _ => ⟨hc, hm⟩, fun h => absurd h hact⟩

end Sys2Proof.Machine

/-! SUPPORT. The commanded drives (R83) and what the built-in LIFE demand reads (R84): two views of a device, the operations that
leave the commands of the doors alone, and those that place demands, whose drives then follow. -/

namespace Sys2Proof.Machine

/-! ### Tables -/

theorem Tab.put_put {α : Type} {n : Nat} (v : Vector α n) (i : Nat) (x y : α) :
    Tab.put (Tab.put v i x) i y = Tab.put v i y := by
  apply Tab.ext
  intro j _
  simp only [Tab.put]
  by_cases hij : i = j
  · subst hij; simp
  · simp [hij]

/-- A fold over indices that makes `P i` hold at step `i`, and keeps every `P j`, ends with `P i` for each index. -/
theorem forEach_establishes {σ : Type} (I : σ → Prop) (P : Nat → σ → Prop) (m : Nat) (f : Nat → σ → σ) (s : σ) (hs : I s)
    (hI : ∀ i t, I t → I (f i t)) (hP : ∀ i t, I t → P i (f i t)) (hk : ∀ i j t, I t → P j t → P j (f i t)) :
    I (forEach m f s) ∧ ∀ i, i < m → P i (forEach m f s) := by
  have fold (l : List Nat) : ∀ t, I t →
      I (l.foldl (fun s i => f i s) t) ∧ ∀ i, i ∈ l ∨ P i t → P i (l.foldl (fun s i => f i s) t) := by
    induction l with
    | nil => exact fun t ht => ⟨ht, fun i hi => by simpa using hi⟩
    | cons x l ih =>
      intro t ht
      obtain ⟨h1, h2⟩ := ih (f x t) (hI x t ht)
      refine ⟨h1, fun i hi => h2 i ?_⟩
      rcases hi with hi | hi
      · rcases List.mem_cons.mp hi with rfl | hi
        · exact .inr (hP _ t ht)
        · exact .inl hi
      · exact .inr (hk x i t ht hi)
  obtain ⟨h1, h2⟩ := fold (List.range m) s hs
  exact ⟨h1, fun i hi => h2 i (.inl (List.mem_range.mpr hi))⟩

/-! ### The views of a device that the law reads -/

/-- What R83 and R84 say of a door: its kind, its demands, and its commanded drive with the level. -/
structure Command where
  kind : DoorKind
  demands : Demands
  drive : Drive
  level : Level

def Door.command (r : Door) : Command := ⟨r.kind, r.demands, r.drive, r.level⟩

/-- The drive and level become those of the highest demand (R83). -/
def Command.follow (c : Command) : Command :=
  { c with drive := (c.demands.top c.kind).1, level := (c.demands.top c.kind).2 }

/-- The door with demands `m`, its drive and level those of the highest (R83). -/
def Door.under (r : Door) (m : Demands) : Door :=
  { r with demands := m, drive := (m.top r.kind).1, level := (m.top r.kind).2 }

/-- The commands of the door table. -/
def Device.commands (d : Device) : Vector (Option Command) 32 := Tab.map (Option.map Door.command) d.doors

/-- The operating state and the commands: what an event may not touch but through the demands. -/
def Device.drives (d : Device) : Bool × Vector (Option Command) 32 := (d.isRunning, d.commands)

/-- What the built-in LIFE demand reads: the passages and the fire states (R84). -/
def Device.fireView (d : Device) : Vector (Option Passage) 96 × Vector (Option Fire) 48 :=
  (d.passages, Tab.map (Option.map Zone.fire) d.zones)

/-- The drive and level of door `n`, if loaded, are those of its highest demand (R83). -/
def Device.DrivenAt (n : Nat) (d : Device) : Prop := ∀ c, Tab.get? d.commands n = some c → c.follow = c

/-- Every door's drive and level are those of its highest demand (R83). -/
def Device.Driven (d : Device) : Prop := ∀ n, d.DrivenAt n

/-- Door `n`, if loaded, has the built-in LIFE demand (R84). -/
def Device.WarnedAt (n : Nat) (d : Device) : Prop :=
  ∀ c, Tab.get? d.commands n = some c → c.demands.life = d.lifeOf n c.kind

theorem Device.get?_commands (d : Device) (n : Nat) : Tab.get? d.commands n = (d.door? n).map Door.command :=
  Tab.get?_map _ _ _

theorem Command.follow_eq_iff (c : Command) : c.follow = c ↔ (c.drive, c.level) = c.demands.top c.kind := by
  cases c with
  | mk kind demands drive level => simp [Command.follow, Prod.ext_iff, eq_comm]

/-- The law of the LIFE demand in terms of the two views. -/
theorem lifeLaw_iff (d : Device) : LifeLaw d ↔ (d.isRunning = true → (∀ n, d.WarnedAt n) ∧ d.Driven) := by
  have door (n : Nat) (r : Door) :
      ((r.kind = .egress → r.demands.life = if d.doorTouches n Fire.isAlarm then some .unlock else none) ∧
        (r.kind = .fireLeaf → r.demands.life = if d.doorTouches n Fire.hot then some .close else none) ∧
        (r.kind = .strongroom → r.demands.life = none) ∧ (r.drive, r.level) = r.demands.top r.kind) ↔
      r.demands.life = d.lifeOf n r.kind ∧ r.command.follow = r.command := by
    rw [Command.follow_eq_iff]
    cases h : r.kind <;> simp [Device.lifeOf, Door.command, h]
  simp only [LifeLaw, door, Device.WarnedAt, Device.Driven, Device.DrivenAt, Device.get?_commands, Option.map_eq_some_iff,
    forall_exists_index, and_imp, forall_apply_eq_imp_iff₂]
  exact forall_congr' fun _ => ⟨fun h => ⟨fun n r hr => (h n r hr).1, fun n r hr => (h n r hr).2⟩,
    fun h n r hr => ⟨h.1 n r hr, h.2 n r hr⟩⟩

theorem Device.fire_eq_fireView (d : Device) (z : Nat) : d.fire z = (Tab.get? d.fireView.2 z).getD .quiet := by
  simp only [Device.fireView, Tab.get?_map]; rfl

theorem Device.lifeOf_congr {a b : Device} (h : b.fireView = a.fireView) : b.lifeOf = a.lifeOf := by
  have hp : b.passages = a.passages := congrArg Prod.fst h
  have hf : b.fire = a.fire := funext fun z => by simp only [Device.fire_eq_fireView, h]
  have ht : b.doorTouches = a.doorTouches := by
    funext n f
    simp only [Device.doorTouches, Device.passage?, hp, hf]
  funext n k
  cases k <;> simp only [Device.lifeOf, ht]

theorem Device.fireView_of_base {a b : Device} (h : b.base = a.base) : b.fireView = a.fireView := by
  have view (d : Device) : d.fireView = d.base.fireView := by
    simp only [Device.fireView, Device.base, Tab.map_map]
    congr 2
    funext o
    cases o <;> rfl
  rw [view b, h, ← view a]

theorem Device.isRunning_of_base {a b : Device} (h : b.base = a.base) : b.isRunning = a.isRunning := by
  change b.base.isRunning = a.base.isRunning
  rw [h]

theorem Device.isRunning_of_drives {a b : Device} (h : b.drives = a.drives) : b.isRunning = a.isRunning :=
  congrArg Prod.fst h

theorem Device.commands_of_drives {a b : Device} (h : b.drives = a.drives) : b.commands = a.commands :=
  congrArg Prod.snd h

theorem Device.Driven.congr {a b : Device} (ha : a.Driven) (h : b.drives = a.drives) : b.Driven := by
  unfold Device.Driven Device.DrivenAt at *; rwa [Device.commands_of_drives h]

/-- A step that leaves both views keeps the law. -/
theorem LifeLaw.congr {a b : Device} (ha : LifeLaw a) (hd : b.drives = a.drives) (hf : b.fireView = a.fireView) :
    LifeLaw b := by
  rw [lifeLaw_iff] at *
  simpa only [Device.WarnedAt, Device.Driven, Device.DrivenAt, Device.lifeOf_congr hf, Device.isRunning_of_drives hd,
    Device.commands_of_drives hd] using ha

theorem lifeLaw_of_commissioning {d : Device} (h : d.isRunning = false) : LifeLaw d := fun hr => by simp [h] at hr

/-! ### Operations that leave the commands and the operating state -/

theorem Device.drives_of {a b : Device} (hl : b.link.base = a.link.base) (hd : b.doors = a.doors) : b.drives = a.drives := by
  have ho : b.link.op = a.link.op := by
    change b.link.base.op = a.link.base.op
    rw [hl]
  simp only [Device.drives, Device.isRunning, Device.commands, ho, hd]

@[simp] theorem Device.report_drives (d : Device) (c : ReportClass) (o : Nat) (x : ReportState) :
    (d.report c o x).drives = d.drives :=
  Device.drives_of (Link.queue_base d.link _) rfl

@[simp] theorem Device.transmit_drives (d : Device) : d.transmit.drives = d.drives :=
  Device.drives_of (Link.transmit_base d.link) rfl

@[simp] theorem Device.putPoint_drives (d : Device) (p : Nat) (r : Point) : (d.putPoint p r).drives = d.drives := rfl
@[simp] theorem Device.putLoop_drives (d : Device) (l : Nat) (r : Loop) : (d.putLoop l r).drives = d.drives := rfl
@[simp] theorem Device.putZone_drives (d : Device) (z : Nat) (r : Zone) : (d.putZone z r).drives = d.drives := rfl
@[simp] theorem Device.updZone_drives (d : Device) (z : Nat) (f : Zone → Zone) : (d.updZone z f).drives = d.drives := rfl
@[simp] theorem Device.putSounder_drives (d : Device) (c : Nat) (r : Sounder) : (d.putSounder c r).drives = d.drives := rfl
@[simp] theorem Device.putRule_drives (d : Device) (e : Nat) (r : Rule) : (d.putRule e r).drives = d.drives := rfl
@[simp] theorem Device.putSign_drives (d : Device) (n : Nat) (r : Sign) : (d.putSign n r).drives = d.drives := rfl
@[simp] theorem Device.putGroup_drives (d : Device) (g : Nat) (r : Group) : (d.putGroup g r).drives = d.drives := rfl
@[simp] theorem Device.exchangeEarly_drives (d : Device) (n : Nat) : (d.exchangeEarly n).drives = d.drives := rfl
@[simp] theorem Device.sendEarly_drives (d : Device) (n : Nat) : (d.sendEarly n).drives = d.drives := rfl

theorem Device.putDoor_drives {d : Device} {n : Nat} {r x : Door} (h : d.door? n = some x) (hc : r.command = x.command) :
    (d.putDoor n r).drives = d.drives := by
  simp only [Device.drives, Device.commands, Device.putDoor, Tab.map_put_some Door.command d.doors n r x h hc]
  rfl

theorem Device.updDoor_drives (d : Device) (n : Nat) {f : Door → Door} (h : ∀ r, (f r).command = r.command) :
    (d.updDoor n f).drives = d.drives := by
  simp only [Device.drives, Device.commands, Device.updDoor, Tab.map_upd Door.command d.doors n f fun y _ => h y]
  rfl

/-! #### Route engine, signs and sounders -/

theorem Device.route_drives (d : Device) (r : RouteEngine) : ({ d with route := r }).drives = d.drives := rfl

@[simp] theorem Device.trigger_drives (d : Device) (b : Option Block) : (d.trigger b).drives = d.drives := by
  unfold Device.trigger
  split_ifs
  · cases b <;> rfl
  · rfl

@[simp] theorem Device.takeSnapshot_drives (d : Device) : d.takeSnapshot.drives = d.drives := by
  unfold Device.takeSnapshot; split <;> rfl

@[simp] theorem Device.setNoRoute_drives (z : Nat) (d : Device) : (d.setNoRoute z).drives = d.drives := by
  unfold Device.setNoRoute
  split
  · rfl
  · dsimp only; split_ifs <;> simp

@[simp] theorem Device.publish_drives (d : Device) (w : WorkingPlan) : (d.publish w).drives = d.drives := by
  unfold Device.publish
  dsimp only
  rw [forEach_same Device.drives 48 _ _ fun z t => Device.setNoRoute_drives z t, Device.report_drives]
  rfl

@[simp] theorem Device.completePass_drives (d : Device) (s : Snapshot) : (d.completePass s).drives = d.drives := by
  unfold Device.completePass
  dsimp only
  split_ifs
  · rfl
  all_goals exact (Device.route_drives (d.publish (s.pass d.passages)) _).trans (d.publish_drives _)

@[simp] theorem Device.passEnds_drives (d : Device) : d.passEnds.drives = d.drives := by
  unfold Device.passEnds; split <;> simp

@[simp] theorem Device.settleSigns_drives (d : Device) : d.settleSigns.drives = d.drives := by
  refine forEach_same Device.drives 64 _ d fun n t => ?_
  unfold Device.settleSign
  split
  · rfl
  · split_ifs <;> rfl

@[simp] theorem Device.nextSend_drives (d : Device) : d.nextSend.drives = d.drives := by
  unfold Device.nextSend
  split
  · rfl
  · split <;> rfl

@[simp] theorem Device.changeGroup_drives (d : Device) (g : Nat) (st : GroupState) : (d.changeGroup g st).drives = d.drives := by
  simp [Device.changeGroup]

@[simp] theorem Device.endTests_drives (d : Device) : d.endTests.drives = d.drives := by
  refine forEach_same Device.drives 8 _ d fun g t => ?_
  split_ifs <;> simp

@[simp] theorem Device.settleTests_drives (d : Device) : d.settleTests.drives = d.drives := by
  unfold Device.settleTests; split_ifs <;> simp

@[simp] theorem Device.changeSounder_drives (d : Device) (c : Nat) (st : SounderState) :
    (d.changeSounder c st).drives = d.drives := by
  simp [Device.changeSounder]

@[simp] theorem Device.requestSounder_drives (d : Device) (c : Nat) (on : Bool) : (d.requestSounder c on).drives = d.drives := by
  unfold Device.requestSounder
  dsimp only
  split_ifs <;> simp

@[simp] theorem Device.shiftSounders_drives (d : Device) (old new : SounderState) :
    (d.shiftSounders old new).drives = d.drives := by
  refine forEach_same Device.drives 16 _ d fun c t => ?_
  split_ifs <;> simp

@[simp] theorem Device.resoundAll_drives (d : Device) : d.resoundAll.drives = d.drives := d.shiftSounders_drives _ _

/-! #### Zones -/

@[simp] theorem Device.holdEnds_drives (d : Device) : d.holdEnds.drives = d.drives := Device.report_drives _ _ _ _

@[simp] theorem Device.alarmEdge_drives (d : Device) (before : Bool) : (d.alarmEdge before).drives = d.drives := by
  unfold Device.alarmEdge
  dsimp only
  split_ifs
  · rfl
  all_goals simp only [Device.report_drives]
  all_goals exact d.report_drives _ _ _

@[simp] theorem Device.changeFire_drives (d : Device) (z : Nat) (f : Fire) : (d.changeFire z f).drives = d.drives := by
  unfold Device.changeFire
  split
  · rfl
  · dsimp only
    split_ifs <;> simp

@[simp] theorem Device.enterAlarm_drives (d : Device) (z : Nat) (cause : AlarmCause) (p : Option Nat) :
    (d.enterAlarm z cause p).drives = d.drives := Device.changeFire_drives d z _

@[simp] theorem Device.judgeFirePoint_drives (d : Device) (z p : Nat) (kind : PointKind) (new : Condition) :
    (d.judgeFirePoint z p kind new).drives = d.drives := by
  unfold Device.judgeFirePoint
  split
  · rfl
  · split
    · rfl
    all_goals split_ifs <;> simp

@[simp] theorem Device.promoteVerify_drives (d : Device) (cause : AlarmCause) : (d.promoteVerify cause).drives = d.drives := by
  refine forEach_same Device.drives 48 _ d fun z t => ?_
  split_ifs <;> simp

@[simp] theorem Device.phaseEnds_drives (d : Device) (z : Nat) : (d.phaseEnds z).drives = d.drives := by
  unfold Device.phaseEnds; split <;> simp

@[simp] theorem Device.setFaultCount_drives (d : Device) (z n : Nat) : (d.setFaultCount z n).drives = d.drives := by
  unfold Device.setFaultCount
  split
  · rfl
  · dsimp only; split_ifs <;> simp

@[simp] theorem Device.enterSecurity_drives (d : Device) (z : Nat) (s : Security) : (d.enterSecurity z s).drives = d.drives := by
  unfold Device.enterSecurity; split <;> simp

@[simp] theorem Device.changeSecurity_drives (d : Device) (z : Nat) (s : Security) : (d.changeSecurity z s).drives = d.drives := by
  unfold Device.changeSecurity
  split
  · rfl
  · split_ifs <;> simp

@[simp] theorem Device.intrude_drives (d : Device) (z : Nat) (cause : IntruderCause) (src : Source) :
    (d.intrude z cause src).drives = d.drives := d.changeSecurity_drives z _

@[simp] theorem Device.beginSetting_drives (d : Device) (z : Nat) : (d.beginSetting z).drives = d.drives := by
  unfold Device.beginSetting; split <;> simp

@[simp] theorem Device.maskedEvent_drives (d : Device) (z : Nat) (r : Zone) (src : Source) :
    (d.maskedEvent z r src).drives = d.drives := by
  unfold Device.maskedEvent; split_ifs <;> simp

@[simp] theorem Device.entryBy_drives (d : Device) (z : Nat) (r : Zone) (cause : IntruderCause) (src : Source) :
    (d.entryBy z r cause src).drives = d.drives := by
  unfold Device.entryBy; split_ifs <;> simp

@[simp] theorem Device.judgeSecurityPoint_drives (d : Device) (z p : Nat) (kind : PointKind) (entryRoute : Bool) :
    (d.judgeSecurityPoint z p kind entryRoute).drives = d.drives := by
  unfold Device.judgeSecurityPoint
  split
  · rfl
  · split_ifs <;> simp

@[simp] theorem Device.doorOpenedEvent_drives (d : Device) (z n : Nat) (entryRoute : Bool) :
    (d.doorOpenedEvent z n entryRoute).drives = d.drives := by
  unfold Device.doorOpenedEvent
  split_ifs
  · rfl
  · split
    · rfl
    · split_ifs <;> simp

@[simp] theorem Device.doorForcedEvent_drives (d : Device) (z n : Nat) : (d.doorForcedEvent z n).drives = d.drives := by
  unfold Device.doorForcedEvent
  split_ifs
  · rfl
  · split
    · rfl
    · split_ifs
      · simp
      · split <;> simp

@[simp] theorem Device.nightSetting_drives (d : Device) : d.nightSetting.drives = d.drives := by
  refine forEach_same Device.drives 48 _ d fun z t => ?_
  split
  · rfl
  · split_ifs <;> simp

@[simp] theorem Device.dayUnsetting_drives (d : Device) : d.dayUnsetting.drives = d.drives := by
  refine forEach_same Device.drives 48 _ d fun z t => ?_
  split
  · rfl
  · split_ifs <;> simp

@[simp] theorem Device.exitEnds_drives (d : Device) (z : Nat) : (d.exitEnds z).drives = d.drives := by
  unfold Device.exitEnds; split <;> simp

@[simp] theorem Device.entryEnds_drives (d : Device) (z : Nat) : (d.entryEnds z).drives = d.drives := by
  unfold Device.entryEnds; split <;> simp

@[simp] theorem Device.changeRegime_drives (d : Device) (r : Regime) : (d.changeRegime r).drives = d.drives := by
  have start : (({ d with regime := r }).report .system 0 (.regime r)).resetConfirms.drives = d.drives :=
    Device.report_drives { d with regime := r } _ _ _
  unfold Device.changeRegime
  dsimp only
  split_ifs
  · cases r <;> simpa using start
  · exact start

/-! #### Calls -/

@[simp] theorem Device.reportCall_drives (d : Device) (c : Call) (v : CallView) : (d.reportCall c v).drives = d.drives :=
  Device.report_drives _ _ _ _

@[simp] theorem Device.changeCall_drives (d : Device) (c : Call) : (d.changeCall c).drives = d.drives :=
  Device.reportCall_drives _ _ _

@[simp] theorem Device.createCall_drives (d : Device) (p : Nat) : (d.createCall p).drives = d.drives :=
  Device.reportCall_drives _ _ _

@[simp] theorem Device.removeCall_drives (d : Device) (c : Call) : (d.removeCall c).drives = d.drives :=
  Device.reportCall_drives _ _ _

@[simp] theorem Device.press_drives (d : Device) (p : Nat) : (d.press p).drives = d.drives := by
  unfold Device.press
  split
  · split_ifs <;> simp
  · split_ifs
    · rfl
    · simp
    · exact Device.report_drives _ _ _ _

@[simp] theorem Device.promoteWaiting_drives (d : Device) : d.promoteWaiting.drives = d.drives := by
  unfold Device.promoteWaiting
  split
  · rfl
  · exact Device.createCall_drives _ _

@[simp] theorem Device.releaseAllCalls_drives (d : Device) : d.releaseAllCalls.drives = d.drives := by
  refine forEach_same Device.drives 256 _ d fun p t => ?_
  split
  · split <;> simp
  · rfl

@[simp] theorem Device.escalate_drives (d : Device) (n : Nat) : (d.escalate n).drives = d.drives := by
  unfold Device.escalate; split <;> simp

@[simp] theorem Device.settleCalls_drives (d : Device) : d.settleCalls.drives = d.drives := by
  unfold Device.settleCalls
  dsimp only
  rw [forEach_same Device.drives 256]
  · rfl
  · intro p t
    split <;> simp

@[simp] theorem Device.settleAllCallFlags_drives (d : Device) : d.settleAllCallFlags.drives = d.drives := by
  refine forEach_same Device.drives 48 _ d fun z t => ?_
  unfold Device.settleCallFlags
  split
  · rfl
  · dsimp only; split_ifs <;> simp

/-! #### Points and loops -/

@[simp] theorem Device.handOn_drives (d : Device) (p : Nat) (r : Point) (new : Condition) :
    (d.handOn p r new).drives = d.drives := by
  unfold Device.handOn Device.firePointChanged Device.securityPointChanged
  dsimp only
  split_ifs <;> simp

@[simp] theorem Device.setCondition_drives (d : Device) (p : Nat) (new : Condition) : (d.setCondition p new).drives = d.drives := by
  unfold Device.setCondition
  dsimp only
  split_ifs <;> simp

@[simp] theorem Device.setHealth_drives (d : Device) (p : Nat) (new : Health) : (d.setHealth p new).drives = d.drives := by
  unfold Device.setHealth
  dsimp only
  split_ifs <;> simp

@[simp] theorem Device.startSweep_drives (d : Device) (l : Nat) : (d.startSweep l).drives = d.drives := by
  unfold Device.startSweep; dsimp only; split <;> rfl

@[simp] theorem Device.nextPoll_drives (d : Device) (l : Nat) (x : Exchange) : (d.nextPoll l x).drives = d.drives := by
  unfold Device.nextPoll; dsimp only; split <;> simp

@[simp] theorem Device.takeEvaluation_drives (d : Device) (l a : Nat) (e : Evaluated) :
    (d.takeEvaluation l a e).drives = d.drives := by
  unfold Device.takeEvaluation Device.joinConfirm
  dsimp only
  split_ifs <;> simp

@[simp] theorem Device.evaluate_drives (d : Device) (l a reading : Nat) (tamper : Bool) :
    (d.evaluate l a reading tamper).drives = d.drives := by
  unfold Device.evaluate
  dsimp only
  split
  · split <;> simp
  · split <;> simp
  · rfl
  · simp

@[simp] theorem Device.takeAnswer_drives (d : Device) (l a : Nat) (code : Option PointKind) (reading : Nat) (tamper : Bool) :
    (d.takeAnswer l a code reading tamper).drives = d.drives := by
  unfold Device.takeAnswer
  dsimp only
  split_ifs <;> simp

@[simp] theorem Device.takeNoAnswer_drives (d : Device) (l a : Nat) : (d.takeNoAnswer l a).drives = d.drives := by
  unfold Device.takeNoAnswer
  dsimp only
  split_ifs <;> simp

theorem Device.completeExchange_drives (d : Device) (l : Nat) {f : Nat → Device → Device}
    (h : ∀ a e, (f a e).drives = e.drives) : (d.completeExchange l f).drives = d.drives := by
  unfold Device.completeExchange
  split
  · rfl
  · dsimp only; split_ifs <;> simp [h]

@[simp] theorem Device.leaveConfirm_drives (d : Device) (p : Nat) : (d.leaveConfirm p).drives = d.drives := rfl

@[simp] theorem Device.disablePoint_drives (d : Device) (p : Nat) : (d.disablePoint p).drives = d.drives := by
  simp [Device.disablePoint]

/-! #### Conditions, statuses and exchanges of doors -/

@[simp] theorem Device.changeCondition_drives (d : Device) (n : Nat) (c : DoorCondition) :
    (d.changeCondition n c).drives = d.drives := by
  unfold Device.changeCondition
  split
  · rfl
  · rename_i r h
    split_ifs
    · rfl
    · rw [Device.report_drives]
      exact Device.putDoor_drives h rfl

@[simp] theorem Device.startLocking_drives (d : Device) (n : Nat) : (d.startLocking n).drives = d.drives := by
  rw [Device.startLocking, Device.changeCondition_drives]
  exact d.updDoor_drives n fun _ => rfl

@[simp] theorem Device.startHeld_drives (d : Device) (n : Nat) : (d.startHeld n).drives = d.drives :=
  d.updDoor_drives n fun _ => rfl

@[simp] theorem Device.judgeDrive_drives (d : Device) (n : Nat) (r : Door) (v : Drive) :
    (d.judgeDrive n r v).drives = d.drives := by
  cases v
  case lock => unfold Device.judgeDrive Device.driveLocks; dsimp only; split <;> simp
  case close => unfold Device.judgeDrive Device.driveCloses; dsimp only; split <;> simp
  case unlock =>
    have h : (d.updDoor n fun r => { r with confirm := none, held := none }).drives = d.drives :=
      d.updDoor_drives n fun _ => rfl
    unfold Device.judgeDrive Device.driveUnlocks; dsimp only; split <;> simp [h]
  case holdOpen =>
    have h : (d.updDoor n fun r => { r with held := none }).drives = d.drives := d.updDoor_drives n fun _ => rfl
    unfold Device.judgeDrive Device.driveHolds; dsimp only; split <;> simp [h]

@[simp] theorem Device.rexPress_drives (d : Device) (n : Nat) : (d.rexPress n).drives = d.drives :=
  d.updDoor_drives n fun r => by split_ifs <;> rfl

@[simp] theorem Device.lockableOpens_drives (d : Device) (n : Nat) (r : Door) : (d.lockableOpens n r).drives = d.drives := by
  have h1 (e : Device) : (e.updDoor n fun r => { r with confirm := none }).drives = e.drives := e.updDoor_drives n fun _ => rfl
  have h2 (e : Device) : (e.updDoor n fun r => { r with shunt := none }).drives = e.drives := e.updDoor_drives n fun _ => rfl
  unfold Device.lockableOpens
  dsimp only
  split_ifs <;> simp [h1, h2]

@[simp] theorem Device.lockableCloses_drives (d : Device) (n : Nat) (r : Door) : (d.lockableCloses n r).drives = d.drives := by
  have h : (d.updDoor n fun r => { r with held := none }).drives = d.drives := d.updDoor_drives n fun _ => rfl
  unfold Device.lockableCloses
  dsimp only
  split_ifs <;> simp [h]

@[simp] theorem Device.fireLeafOpens_drives (d : Device) (n : Nat) (r : Door) : (d.fireLeafOpens n r).drives = d.drives := by
  unfold Device.fireLeafOpens
  dsimp only
  split_ifs <;> simp

@[simp] theorem Device.fireLeafCloses_drives (d : Device) (n : Nat) : (d.fireLeafCloses n).drives = d.drives := by
  rw [Device.fireLeafCloses, Device.changeCondition_drives]
  exact d.updDoor_drives n fun _ => rfl

@[simp] theorem Device.contactChanges_drives (d : Device) (n : Nat) (leaf : Leaf) : (d.contactChanges n leaf).drives = d.drives := by
  have h : (d.updDoor n fun r => { r with leaf := some leaf }).drives = d.drives := d.updDoor_drives n fun _ => rfl
  unfold Device.contactChanges
  dsimp only
  split
  · exact h
  · cases leaf <;> dsimp only <;> split_ifs <;> simp [h]

@[simp] theorem Device.lockChanges_drives (d : Device) (n : Nat) (lock : LockPos) : (d.lockChanges n lock).drives = d.drives := by
  have h1 : (d.updDoor n fun r => { r with lock := some lock }).drives = d.drives := d.updDoor_drives n fun _ => rfl
  have h2 (e : Device) : (e.updDoor n fun r => { r with confirm := none }).drives = e.drives := e.updDoor_drives n fun _ => rfl
  unfold Device.lockChanges
  dsimp only
  split
  · exact h1
  · split
    case h_3 => split_ifs <;> simp [h1]
    all_goals simp [h1, h2]

@[simp] theorem Device.judgeAfresh_drives (d : Device) (n : Nat) (r : Door) (leaf : Leaf) (lock : LockPos) :
    (d.judgeAfresh n r leaf lock).drives = d.drives := by
  unfold Device.judgeAfresh
  dsimp only
  split_ifs <;> simp only [Device.report_drives] <;> exact d.updDoor_drives n fun _ => rfl

@[simp] theorem Device.takeStatus_drives (d : Device) (n : Nat) (leaf : Leaf) (lock : LockPos) (rex : Bool) :
    (d.takeStatus n leaf lock rex).drives = d.drives := by
  have h : (d.updDoor n fun r => { r with watch := some (d.timer confirmSeconds) }).drives = d.drives :=
    d.updDoor_drives n fun _ => rfl
  unfold Device.takeStatus
  split
  · rfl
  · dsimp only
    split_ifs <;> simp [h]

@[simp] theorem Device.nextExchange_drives (d : Device) : d.nextExchange.drives = d.drives := by
  unfold Device.nextExchange
  split
  · rfl
  · split <;> rfl

@[simp] theorem Device.statusArrives_drives (d : Device) (leaf : Leaf) (lock : LockPos) (rex : Bool) :
    (d.statusArrives leaf lock rex).drives = d.drives := by
  unfold Device.statusArrives; split <;> simp

/-! ### Operations that place demands -/

theorem Device.door?_putDoor {d : Device} {n : Nat} {x : Door} (h : d.door? n = some x) (r : Door) :
    (d.putDoor n r).door? n = some r := by
  simp [Device.door?, Device.putDoor, Tab.get?_put, Tab.get?_lt h]

theorem Device.putDoor_putDoor (d : Device) (n : Nat) (r x : Door) : (d.putDoor n r).putDoor n x = d.putDoor n x := by
  simp [Device.putDoor, Tab.put_put]

theorem Device.putDoor_command {d : Device} {n : Nat} {x : Door} (h : d.door? n = some x) (r : Door) (k : Nat) :
    Tab.get? (d.putDoor n r).commands k = if n = k then some r.command else Tab.get? d.commands k := by
  simp only [Device.get?_commands, Device.door?, Device.putDoor, Tab.get?_put, Tab.get?_lt h, and_true]
  split_ifs <;> rfl

/-- A recomputed door's drive and level are those of its highest demand (R83). -/
theorem Device.recompute_drives {d : Device} {n : Nat} {r : Door} (h : d.door? n = some r) :
    (d.recompute n).drives = (d.putDoor n (r.under r.demands)).drives := by
  simp only [Device.recompute, h]
  by_cases hx : (r.demands.top r.kind).1 = r.drive ∧ (r.demands.top r.kind).2 = r.level
  · have hc : (r.under r.demands).command = r.command := by simp [Door.under, Door.command, hx]
    rw [if_pos hx, Device.putDoor_drives h hc]
  · rw [if_neg hx]
    split_ifs <;> simp [Door.under]

/-- Where every drive follows its demands, a door given demands follows them (R83). -/
theorem Device.setDemands_drives {d : Device} (hd : d.Driven) {n : Nat} {r : Door} (h : d.door? n = some r) (m : Demands) :
    (d.setDemands n m).drives = (d.putDoor n (r.under m)).drives := by
  simp only [Device.setDemands, h]
  split_ifs with hm
  · have hr : r.command.follow = r.command := hd n _ (by simp [Device.get?_commands, h])
    exact (Device.putDoor_drives h (hm ▸ hr)).symm
  · rw [Device.recompute_drives (Device.door?_putDoor h _), Device.putDoor_putDoor]
    rfl

section SetDemands
variable {d : Device} {n : Nat} {r : Door} {m : Demands}

theorem Device.setDemands_isRunning : (d.setDemands n m).isRunning = d.isRunning := by
  unfold Device.setDemands
  split
  · rfl
  · split_ifs
    · rfl
    · rw [Device.isRunning_of_base (Device.recompute_base _ _)]; rfl

theorem Device.setDemands_command (hd : d.Driven) (h : d.door? n = some r) (k : Nat) :
    Tab.get? (d.setDemands n m).commands k = if n = k then some (r.under m).command else Tab.get? d.commands k := by
  rw [Device.commands_of_drives (Device.setDemands_drives hd h m), Device.putDoor_command h]

theorem Device.Driven.setDemands (hd : d.Driven) : (d.setDemands n m).Driven := by
  cases h : d.door? n with
  | none => simpa [Device.setDemands, h] using hd
  | some r =>
    intro k c hc
    rw [Device.setDemands_command hd h] at hc
    split_ifs at hc
    · cases hc; rfl
    · exact hd k c hc

end SetDemands

/-- R83: in RUNNING every door's drive and level are those of its highest demand. This much of the law holds within an event
too, before the built-in demands follow the zones. -/
def DriveLaw (d : Device) : Prop := d.isRunning = true → d.Driven

theorem LifeLaw.driveLaw {d : Device} (h : LifeLaw d) : DriveLaw d := fun hr => ((lifeLaw_iff d).mp h hr).2

theorem DriveLaw.congr {a b : Device} (ha : DriveLaw a) (h : b.drives = a.drives) : DriveLaw b :=
  fun hr => (ha ((Device.isRunning_of_drives h).symm.trans hr)).congr h

theorem DriveLaw.setDemands {d : Device} (hd : DriveLaw d) (n : Nat) (m : Demands) : DriveLaw (d.setDemands n m) :=
  fun hr => (hd (Device.setDemands_isRunning.symm.trans hr)).setDemands

end Sys2Proof.Machine

/-! SUPPORT. R84: the end of every event makes the law of the LIFE demand true, every command keeps it, and with it escape
doors open and fire leaves close. -/

namespace Sys2Proof.Machine

/-! ### The end of an event -/

theorem Device.Driven.settleDoor {d : Device} (hd : d.Driven) (n : Nat) : (d.settleDoor n).Driven := by
  unfold Device.settleDoor
  split
  · exact hd
  · exact hd.setDemands

/-- A settled door has the built-in LIFE demand, and so has every other door that had it (R84). -/
theorem Device.Driven.warnedAt_settleDoor {d : Device} (hd : d.Driven) (n k : Nat) (hk : n = k ∨ d.WarnedAt k) :
    (d.settleDoor n).WarnedAt k := by
  unfold Device.WarnedAt at *
  rw [Device.lifeOf_congr (Device.fireView_of_base (d.settleDoor_base n))]
  intro c hc
  unfold Device.settleDoor at hc
  cases h : d.door? n with
  | none =>
    simp only [h] at hc
    refine hk.elim (fun hn => ?_) fun hk => hk c hc
    simp [← hn, Device.get?_commands, h] at hc
  | some r =>
    simp only [h] at hc
    rw [Device.setDemands_command hd h] at hc
    split_ifs at hc with hn
    · cases hc; cases hn; rfl
    · exact (hk.resolve_left hn) c hc

/-- The built-in demands make the law true where every drive follows its demands. -/
theorem DriveLaw.settleDoors {d : Device} (hd : DriveLaw d) : LifeLaw d.settleDoors := by
  rw [lifeLaw_iff]
  intro hr
  have driven := hd ((Device.isRunning_of_base d.settleDoors_base).symm.trans hr)
  obtain ⟨driven, warned⟩ := forEach_establishes Device.Driven Device.WarnedAt 32 Device.settleDoor d driven
    (fun i _ ht => ht.settleDoor i) (fun i _ ht => ht.warnedAt_settleDoor i i (.inl rfl))
    fun i j _ ht hj => ht.warnedAt_settleDoor i j (.inr hj)
  exact ⟨fun n c hc => warned n (Tab.get?_lt hc) c hc, driven⟩

/-- Only a door's target holds demands (R117). -/
theorem Device.actOn_drives (d : Device) {t : Target} (ht : ∀ n, t ≠ .door n) (x : Asked) : (d.actOn t x).drives = d.drives := by
  unfold Device.actOn
  cases t with
  | door n => exact absurd rfl (ht n)
  | sounder c => exact d.requestSounder_drives c _
  | relay k =>
    dsimp only
    split_ifs
    · rfl
    · exact Device.report_drives _ _ _ _
  | avoid z =>
    dsimp only
    split
    · rfl
    · split_ifs <;> simp

/-- The RULE demand leaves the LIFE demand, and the drive follows (R83, R85). -/
theorem LifeLaw.actOn_door {d : Device} (hd : LifeLaw d) (n : Nat) (x : Asked) : LifeLaw (d.actOn (.door n) x) := by
  have base := d.actOn_base (.door n) x
  simp only [Device.actOn] at base ⊢
  cases h : d.door? n with
  | none => exact hd
  | some r =>
    simp only [h] at base ⊢
    rw [lifeLaw_iff] at *
    intro hr
    obtain ⟨warned, driven⟩ := hd ((Device.isRunning_of_base base).symm.trans hr)
    refine ⟨fun k c hc => ?_, driven.setDemands⟩
    rw [Device.setDemands_command driven h] at hc
    rw [Device.lifeOf_congr (Device.fireView_of_base base)]
    split_ifs at hc with hk
    · cases hc
      cases hk
      exact warned n r.command (by simp [Device.get?_commands, h])
    · exact warned k c hc

theorem LifeLaw.actOn {d : Device} (hd : LifeLaw d) (t : Target) (x : Asked) : LifeLaw (d.actOn t x) := by
  by_cases ht : ∃ n, t = .door n
  · obtain ⟨n, rfl⟩ := ht
    exact hd.actOn_door n x
  · exact hd.congr (d.actOn_drives (not_exists.mp ht) x) (Device.fireView_of_base (d.actOn_base t x))

theorem LifeLaw.applyOutcomes {d : Device} (hd : LifeLaw d) (final : Vector (Option Rule) 128) :
    LifeLaw (d.applyOutcomes final) := by
  refine forEach_keeps LifeLaw 128 _ d hd fun e t ht => ?_
  unfold Device.applyOutcome
  split
  case h_1 r f _ _ =>
    have told : LifeLaw ((t.putRule e { r with outcome := f.outcome }).report .system e
        (.ruleOutcome (t.outcomeView f.outcome))) := ht.congr (by simp) rfl
    dsimp only
    split_ifs
    · exact ht
    · exact told
    · exact told.actOn _ _
    · exact told
  case h_2 => exact ht

/-- After the built-in demands no reaction moves a LIFE demand or parts a drive from its demands. -/
theorem DriveLaw.react {d : Device} (hd : DriveLaw d) (d0 : Device) (fresh : Bool) : LifeLaw (d.react d0 fresh) := by
  have calls : LifeLaw d.settleDoors.settleCalls.settleAllCallFlags.settleTests :=
    hd.settleDoors.congr (by simp) (Device.fireView_of_base (by simp))
  exact (calls.applyOutcomes _).congr (Device.takeSnapshot_drives _) (Device.fireView_of_base (Device.takeSnapshot_base _))

/-- The end of an event makes the law true where every drive follows its demands. -/
theorem DriveLaw.finish {d : Device} (hd : DriveLaw d) (d0 : Device) (fresh : Bool) : LifeLaw (d.finish d0 fresh) := by
  unfold Device.finish
  split_ifs with hr
  · exact (hd.react d0 fresh).congr (by simp) (Device.fireView_of_base (by simp))
  · refine lifeLaw_of_commissioning ?_
    rw [Device.isRunning_of_base d.settleSigns_base]
    exact eq_false_of_ne_true hr

theorem LifeLaw.transmit {d : Device} (hd : LifeLaw d) : LifeLaw d.transmit :=
  hd.congr (by simp) rfl

theorem LifeLaw.event {d : Device} (hd : LifeLaw d) (occurs : Bool) {f : Device → Device} (hf : DriveLaw (f d)) :
    LifeLaw (d.event occurs f) := by
  unfold Device.event
  split_ifs
  · exact (hf.finish d false).transmit
  · exact hd

theorem LifeLaw.eventAlone {d : Device} (hd : LifeLaw d) (occurs : Bool) {f : Device → Device} (hf : LifeLaw (f d)) :
    LifeLaw (d.eventAlone occurs f) := by
  unfold Device.eventAlone
  split_ifs
  · exact hf.transmit
  · exact hd

/-! ### Restarts, COMMIT, EDIT and power -/

/-- A door record whose drive follows its demands leaves every other door as it is. -/
theorem Device.DrivenAt.putDoor {d : Device} {n k : Nat} {x r : Door} (h : d.door? n = some x)
    (hr : r.command.follow = r.command) (hk : n = k ∨ d.DrivenAt k) : (d.putDoor n r).DrivenAt k := by
  intro c hc
  rw [Device.putDoor_command h] at hc
  split_ifs at hc with hn
  · cases hc; exact hr
  · exact (hk.resolve_left hn) c hc

/-- In RUNNING a restarted door's drive follows its demands, and so does every other drive that did (R103). -/
theorem Device.warmDoor_drivenAt (d : Device) (n k : Nat) (hk : n = k ∨ (d.isRunning = true → d.DrivenAt k)) :
    (d.warmDoor n).isRunning = true → (d.warmDoor n).DrivenAt k := by
  unfold Device.warmDoor
  cases h : d.door? n with
  | none =>
    intro hr c hc
    refine hk.elim (fun hn => ?_) fun hk => hk hr c hc
    simp [← hn, Device.get?_commands, h] at hc
  | some r =>
    dsimp only
    split_ifs with hrun
    · exact fun _ => Device.DrivenAt.putDoor h rfl (hk.imp_right fun hk => hk hrun)
    · exact fun _ => Device.DrivenAt.putDoor (r := (r.unheard _).under _) h rfl (hk.imp_right fun hk => hk hrun)
    · exact fun hr => absurd hr hrun

theorem driveLaw_warmDoors (d : Device) : DriveLaw d.warmDoors := fun hr n c hc =>
  (forEach_establishes (fun _ => True) (fun n t => t.isRunning = true → t.DrivenAt n) 32 Device.warmDoor d trivial
    (fun _ _ _ => trivial) (fun i t _ => t.warmDoor_drivenAt i i (.inl rfl))
    fun i j t _ hj => t.warmDoor_drivenAt i j (.inr hj)).2 n (Tab.get?_lt hc) hr c hc

theorem driveLaw_warm (d : Device) : DriveLaw d.warm := by
  have later (e : Device) (n k : Nat) : ((e.clearSigns.dropCalls.reportCleared n k).trigger none).drives = e.drives := by
    rw [Device.trigger_drives, Device.reportCleared, Device.report_drives]
    rfl
  exact (driveLaw_warmDoors _).congr (later _ _ _)

theorem LifeLaw.reply {d : Device} (hd : LifeLaw d) (k : Byte) (h : Header) (st : Status) (c : Content) :
    LifeLaw (d.reply k h st c) := hd.congr rfl rfl

/-- A successful COMMIT and a warm restart make the law true, whatever they found. -/
theorem lifeLaw_warmed (d : Device) : LifeLaw d.warmed := (driveLaw_warm d).finish _ _

theorem LifeLaw.completeCommit {d : Device} (hd : LifeLaw d) (h : Header) : LifeLaw (d.completeCommit h) := by
  unfold Device.completeCommit
  dsimp only
  split
  · exact hd.congr rfl rfl
  · exact (lifeLaw_warmed _).reply _ _ _ _

theorem LifeLaw.abandonCommit {d : Device} (hd : LifeLaw d) : LifeLaw d.abandonCommit := by
  unfold Device.abandonCommit
  split
  · exact hd
  · exact hd.congr rfl rfl

theorem lifeLaw_edit (d : Device) : LifeLaw d.edit :=
  lifeLaw_of_commissioning (Device.isRunning_of_drives (Device.settleSigns_drives _))

theorem lifeLaw_coldRestart (d : Device) (causes : Causes) : LifeLaw (d.coldRestart causes) := by
  have told (c : Device) (n k : Nat) : (c.reportCleared n k).transmit.isRunning = c.isRunning :=
    Device.isRunning_of_drives (by simp [Device.reportCleared])
  exact lifeLaw_of_commissioning (told _ _ _)

theorem LifeLaw.powerChange {d : Device} (hd : LifeLaw d) (inputs : Inputs) (causes : Causes) :
    LifeLaw (d.powerChange inputs causes) := by
  unfold Device.powerChange
  dsimp only
  split_ifs
  · exact lifeLaw_coldRestart _ _
  · exact hd.congr rfl rfl

/-! ### The gates of a request -/

theorem LifeLaw.deliver {a : Answer} (ha : LifeLaw a.dev) (code : Byte) (h : Header) : LifeLaw (a.deliver code h) := by
  unfold Answer.deliver
  refine LifeLaw.transmit ?_
  split
  · exact ha
  · exact ha.reply _ _ _ _

theorem LifeLaw.ok {d : Device} (hd : LifeLaw d) (c : Content) : LifeLaw (d.ok c).dev := hd

theorem LifeLaw.okOr {d : Device} (hd : LifeLaw d) (clamped : Bool) (c : Content) : LifeLaw (d.okOr clamped c).dev := hd

section Gates
variable {d : Device} (hd : LifeLaw d)
include hd

/-- A request keeps the law if its own rule does. -/
theorem LifeLaw.request (g : Gate) (h : Header) (body : List Byte) {judge : Option Nat → Device → Answer}
    (hj : ∀ run e, LifeLaw e → LifeLaw (judge run e).dev) : LifeLaw (d.request g h body judge) := by
  have hunted : LifeLaw (d.updLink Link.hunted) := hd.congr rfl rfl
  unfold Device.request
  dsimp only
  split_ifs
  · exact hd
  · exact hunted
  · exact LifeLaw.deliver (a := Device.refuse _ _) hunted g.code h
  · refine LifeLaw.deliver ?_ g.code h
    unfold Device.take
    split
    · exact hunted
    · dsimp only
      split_ifs
      · exact hunted.congr rfl rfl
      · exact hj _ _ (hunted.congr rfl rfl)
      · exact hunted

theorem LifeLaw.requestUnknown (kind : Byte) (h : Header) : LifeLaw (d.requestUnknown kind h) := by
  have hunted : LifeLaw (d.updLink Link.hunted) := hd.congr rfl rfl
  unfold Device.requestUnknown
  dsimp only
  split_ifs
  · exact hd
  · exact hunted
  all_goals exact LifeLaw.deliver (a := Device.refuse _ _) hunted kind h

theorem LifeLaw.parsed {α : Type} (x : Option α) {f : α → Answer} (hf : ∀ a, LifeLaw (f a).dev) :
    LifeLaw (d.parsed x f).dev := by
  cases x with
  | none => exact hd
  | some a => exact hf a

theorem LifeLaw.whenRunning {a : Answer} (ha : LifeLaw a.dev) : LifeLaw (d.whenRunning a).dev := by
  unfold Device.whenRunning
  split_ifs
  · exact ha
  · exact hd

/-- A commissioning request never leaves COMMISSIONING, where the law says nothing. -/
theorem LifeLaw.whenCommissioning {a : Answer} (ha : a.dev.isRunning = d.isRunning) :
    LifeLaw (d.whenCommissioning a).dev := by
  unfold Device.whenCommissioning
  split_ifs with hr
  · exact hd
  · exact lifeLaw_of_commissioning (ha.trans (eq_false_of_ne_true hr))

theorem LifeLaw.fromGuard (h : Header) {f : Nat → Answer} (hf : ∀ n, LifeLaw (f n).dev) :
    LifeLaw (d.fromGuard h f).dev := by
  unfold Device.fromGuard
  split_ifs
  · exact hd
  · exact hf _

theorem LifeLaw.onCall (h : Header) (number : Nat) {f : Nat → Call → Answer} (hf : ∀ n c, LifeLaw (f n c).dev) :
    LifeLaw (d.onCall h number f).dev := by
  refine hd.whenRunning (hd.fromGuard h fun n => ?_)
  split
  · exact hd
  · exact hf n _

end Gates

/-! ### The rules of the requests -/

section Judged
variable {d : Device} (hd : LifeLaw d)
include hd

theorem LifeLaw.judgePulseB : LifeLaw (judgePulseB d).dev := by
  unfold Machine.judgePulseB
  dsimp only
  split_ifs <;> exact hd.congr rfl rfl

theorem LifeLaw.judgeSuperviseSet (code : Nat) : LifeLaw (judgeSuperviseSet code d).dev := by
  unfold Machine.judgeSuperviseSet
  split_ifs
  · exact hd
  · split
    · exact hd
    · exact hd.congr rfl rfl

theorem LifeLaw.judgeResume : LifeLaw (judgeResume d).dev := by
  unfold Machine.judgeResume
  split
  · exact hd
  · exact ((hd.driveLaw.congr (b := d.startSupervision _) rfl).finish d false).ok _

theorem LifeLaw.judgeRange (station : Byte) (n : Nat) : LifeLaw (judgeRange station n d).dev := by
  unfold Machine.judgeRange
  split
  · exact hd
  · exact hd.congr rfl rfl

theorem LifeLaw.judgeReportMask (set : Byte) : LifeLaw (judgeReportMask set d).dev := by
  unfold Machine.judgeReportMask
  split
  · exact hd
  · exact hd.congr rfl rfl

/-! #### Queries -/

theorem LifeLaw.judgeQueryPoint (p : Nat) : LifeLaw (judgeQueryPoint p d).dev := by
  unfold Machine.judgeQueryPoint; split_ifs <;> exact hd

theorem LifeLaw.judgeQueryZone (z : Nat) : LifeLaw (judgeQueryZone z d).dev := by
  unfold Machine.judgeQueryZone; split_ifs <;> exact hd

theorem LifeLaw.judgeQueryDoor (n : Nat) : LifeLaw (judgeQueryDoor n d).dev := by
  unfold Machine.judgeQueryDoor
  split_ifs
  · exact hd
  · split
    · exact hd
    · exact hd.congr rfl rfl

theorem LifeLaw.judgeQueryCalls (part : CallsPart) : LifeLaw (judgeQueryCalls part d).dev := by
  cases part <;> exact hd

theorem LifeLaw.judgeQueryPlan (z : Nat) : LifeLaw (judgeQueryPlan z d).dev := by
  unfold Machine.judgeQueryPlan; split_ifs <;> exact hd

theorem LifeLaw.judgeQuerySign (n : Nat) : LifeLaw (judgeQuerySign n d).dev := by
  unfold Machine.judgeQuerySign
  split_ifs
  · exact hd
  · split <;> exact hd

theorem LifeLaw.judgeQueryRule (e : Nat) : LifeLaw (judgeQueryRule e d).dev := by
  unfold Machine.judgeQueryRule; split_ifs <;> exact hd

/-! #### Regime, latches and fire -/

theorem LifeLaw.judgeSetRegime (code : Nat) : LifeLaw (judgeSetRegime code d).dev := by
  unfold Machine.judgeSetRegime
  split
  · exact hd
  · split_ifs
    · exact hd
    · exact ((hd.driveLaw.congr (d.changeRegime_drives _)).finish d false).ok _

theorem LifeLaw.judgeClearLatches : LifeLaw (judgeClearLatches d).dev :=
  hd.whenRunning (((hd.applyOutcomes d.latchesCleared).driveLaw.finish d false).ok _)

theorem LifeLaw.finish_changeFire (z : Nat) (f : Fire) : LifeLaw ((d.changeFire z f).finish d) :=
  (hd.driveLaw.congr (d.changeFire_drives z f)).finish d false

theorem LifeLaw.judgeAckAlarm (station z : Nat) : LifeLaw (judgeAckAlarm station z d).dev := by
  unfold Machine.judgeAckAlarm
  split
  · exact hd
  · split
    · exact (hd.finish_changeFire z _).ok _
    · exact hd

theorem LifeLaw.judgeCancelVerify (z : Nat) : LifeLaw (judgeCancelVerify z d).dev := by
  unfold Machine.judgeCancelVerify
  split
  · exact hd
  · split_ifs
    · exact hd
    · exact hd
    · exact (hd.finish_changeFire z _).ok _

theorem LifeLaw.judgeResetFire (z : Nat) : LifeLaw (judgeResetFire z d).dev := by
  unfold Machine.judgeResetFire
  split
  · exact hd
  · split_ifs
    · exact hd
    · exact hd
    · exact (hd.finish_changeFire z _).ok _

theorem LifeLaw.shiftSounders (old new : SounderState) : LifeLaw (d.shiftSounders old new) := by
  refine hd.congr (d.shiftSounders_drives old new) (Device.fireView_of_base ?_)
  refine forEach_same Device.base 16 _ d fun c t => ?_
  split_ifs <;> simp

/-! #### Guarding -/

theorem LifeLaw.finish_armRun (run : List Nat) : LifeLaw ((d.armRun run).finish d) := by
  refine (hd.driveLaw.congr (forList_same Device.drives run _ d fun z t => ?_)).finish d false
  split_ifs <;> simp

theorem LifeLaw.finish_disarmRun (run : List Nat) : LifeLaw ((d.disarmRun run).finish d) := by
  refine (hd.driveLaw.congr (forList_same Device.drives run _ d fun z t => ?_)).finish d false
  split_ifs <;> simp

theorem LifeLaw.judgeArmZone (run : Option Nat) (z : Nat) : LifeLaw (judgeArmZone run z d).dev := by
  unfold Machine.judgeArmZone
  split
  · split_ifs
    · exact hd
    · exact (hd.finish_armRun _).ok _
  · split
    · exact hd
    · split_ifs
      · exact hd
      · exact (hd.finish_armRun _).ok _

theorem LifeLaw.judgeDisarmZone (run : Option Nat) (z : Nat) : LifeLaw (judgeDisarmZone run z d).dev := by
  unfold Machine.judgeDisarmZone
  split
  · split_ifs
    · exact hd
    · exact (hd.finish_disarmRun _).ok _
  · split
    · exact hd
    · split_ifs
      · exact hd
      · exact (hd.finish_disarmRun _).ok _

theorem LifeLaw.judgeResetIntruder (z : Nat) : LifeLaw (judgeResetIntruder z d).dev := by
  unfold Machine.judgeResetIntruder
  split
  · exact hd
  · split_ifs
    · exact hd
    · exact hd
    · exact ((hd.driveLaw.congr (d.changeSecurity_drives z _)).finish d false).ok _

/-! #### Points -/

theorem LifeLaw.judgePoints (on : Bool) (act : List Nat → Device) (run : Option Nat) (p : Nat)
    (ha : ∀ l, LifeLaw (act l)) : LifeLaw (judgePoints on act run p d).dev := by
  unfold Machine.judgePoints
  split
  · exact hd
  · split
    · exact (ha _).ok _
    · split
      · exact hd
      · exact (ha _).ok _

theorem LifeLaw.judgeDisablePoint (run : Option Nat) (p : Nat) : LifeLaw (judgeDisablePoint run p d).dev := by
  refine hd.judgePoints true _ run p fun l => ?_
  refine (hd.driveLaw.congr (forList_same Device.drives l _ d fun p t => ?_)).finish d false
  split_ifs <;> simp

theorem LifeLaw.judgeEnablePoint (run : Option Nat) (p : Nat) : LifeLaw (judgeEnablePoint run p d).dev := by
  refine hd.judgePoints false _ run p fun l => ?_
  refine forList_keeps LifeLaw l _ d hd fun p t ht => ?_
  split_ifs
  · exact ht.congr rfl rfl
  · exact ht

/-! #### Doors -/

theorem LifeLaw.finish_guardRun (station duration : Nat) (a : DoorAction) (run : List Nat) :
    LifeLaw ((d.guardRun station duration a run).finish d) := by
  refine DriveLaw.finish (forList_keeps DriveLaw run _ d hd.driveLaw fun n t ht => ?_) d false
  unfold Device.guardDoor
  split_ifs
  · split
    · exact ht
    · exact ht.setDemands n _
  · exact ht

theorem LifeLaw.finish_scheduleRun (a : DoorAction) (run : List Nat) : LifeLaw ((d.scheduleRun a run).finish d) := by
  refine DriveLaw.finish (forList_keeps DriveLaw run _ d hd.driveLaw fun n t ht => ?_) d false
  unfold Device.scheduleDoor
  split_ifs
  · split
    · exact ht
    · exact ht.setDemands n _
  · exact ht

theorem LifeLaw.judgeDoorGuard (run : Option Nat) (station : Nat) (b : DoorGuardBody) :
    LifeLaw (judgeDoorGuard run station b d).dev := by
  unfold Machine.judgeDoorGuard
  split_ifs
  · exact hd
  · exact hd
  · split
    · exact hd
    · split
      · exact (hd.finish_guardRun _ _ _ _).okOr _ _
      · split_ifs
        · exact hd
        · exact (hd.finish_guardRun _ _ _ _).okOr _ _

theorem LifeLaw.judgeSchedule (run : Option Nat) (door action : Nat) : LifeLaw (judgeSchedule run door action d).dev := by
  unfold Machine.judgeSchedule
  split_ifs
  · exact hd
  · exact hd
  · split
    · exact hd
    · split
      · exact (hd.finish_scheduleRun _ _).ok _
      · split_ifs
        · exact hd
        · exact (hd.finish_scheduleRun _ _).ok _

/-! #### Calls and sign groups -/

theorem LifeLaw.judgeClaimCall (station : Nat) (c : Call) : LifeLaw (judgeClaimCall station c d).dev := by
  unfold Machine.judgeClaimCall
  split
  · split_ifs <;> exact hd
  · split_ifs
    · exact hd
    · exact ((hd.driveLaw.congr (d.changeCall_drives _)).finish d false).ok _

theorem LifeLaw.judgeReleaseCall (station : Nat) (c : Call) : LifeLaw (judgeReleaseCall station c d).dev := by
  unfold Machine.judgeReleaseCall
  split_ifs
  · exact hd
  · exact ((hd.driveLaw.congr (d.changeCall_drives _)).finish d false).ok _

theorem LifeLaw.judgeCloseCall (station : Nat) (c : Call) : LifeLaw (judgeCloseCall station c d).dev := by
  unfold Machine.judgeCloseCall
  split_ifs
  · exact hd
  · exact ((hd.driveLaw.congr (b := (d.removeCall c).promoteWaiting) (by simp)).finish d false).ok _

theorem LifeLaw.settleSigns : LifeLaw d.settleSigns :=
  hd.congr d.settleSigns_drives (Device.fireView_of_base d.settleSigns_base)

theorem LifeLaw.settleSigns_changeGroup (g : Nat) (st : GroupState) : LifeLaw (d.changeGroup g st).settleSigns :=
  (hd.congr (d.changeGroup_drives g st) (Device.fireView_of_base (d.changeGroup_base g st))).settleSigns

theorem LifeLaw.toGroup (g : Nat) (st : GroupState) : LifeLaw (d.toGroup g st).dev := by
  refine hd.whenRunning ?_
  split_ifs
  · exact hd
  · exact hd.ok _
  · exact (hd.settleSigns_changeGroup g st).ok _

theorem LifeLaw.judgeTestStart (g : Nat) : LifeLaw (judgeTestStart g d).dev := by
  refine hd.whenRunning ?_
  split_ifs
  · exact hd
  · exact hd
  · exact hd
  · exact (hd.settleSigns_changeGroup g _).ok _

theorem LifeLaw.judgeEdit : LifeLaw (judgeEdit d).dev := by
  refine hd.whenRunning ?_
  split_ifs
  · exact hd
  · exact (lifeLaw_edit d).ok _

end Judged

/-! #### Commissioning requests leave the operating state -/

section Loads
variable (d : Device)

theorem judgeLoadZone_isRunning (b : LoadZoneBody) : (judgeLoadZone b d).dev.isRunning = d.isRunning := by
  have load (z : Nat) (r : Zone) : (d.loadZone z r).isRunning = d.isRunning := by
    refine Device.isRunning_of_drives ?_
    unfold Device.loadZone
    dsimp only
    split_ifs <;> simp
  unfold judgeLoadZone
  split_ifs
  · rfl
  · split
    · exact load _ _
    · rfl

theorem judgeLoadPoint_isRunning (b : LoadPointBody) : (judgeLoadPoint b d).dev.isRunning = d.isRunning := by
  have load (p : Nat) (r : Point) : (d.loadPoint p r).isRunning = d.isRunning := by
    refine Device.isRunning_of_drives ?_
    unfold Device.loadPoint
    dsimp only
    split_ifs <;> simp
  unfold judgeLoadPoint
  split_ifs
  · rfl
  · split
    · rfl
    · split_ifs
      · rfl
      · exact load _ _

theorem judgeLoadClass_isRunning (b : LoadClassBody) : (judgeLoadClass b d).dev.isRunning = d.isRunning := by
  unfold judgeLoadClass
  dsimp only
  split_ifs <;> rfl

theorem judgeLoadDoor_isRunning (b : LoadDoorBody) : (judgeLoadDoor b d).dev.isRunning = d.isRunning := by
  have load (n : Nat) (r : Door) : (d.loadDoor n r).isRunning = d.isRunning := by
    refine (Device.isRunning_of_drives (a := d.putDoor n r) ?_).trans rfl
    unfold Device.loadDoor
    dsimp only
    split_ifs <;> simp
  unfold judgeLoadDoor
  split_ifs
  · rfl
  · split
    · rfl
    · split_ifs
      · rfl
      · exact load _ _

theorem judgeLoadPassage_isRunning (b : LoadPassageBody) : (judgeLoadPassage b d).dev.isRunning = d.isRunning := by
  unfold judgeLoadPassage
  split
  · rfl
  split
  · rfl
  split
  · rfl
  split
  · rfl
  split
  · rfl
  split
  · rfl
  split <;> rfl

theorem judgeLoadSign_isRunning (b : LoadSignBody) : (judgeLoadSign b d).dev.isRunning = d.isRunning := by
  have load (n : Nat) (r : Sign) : (d.loadSign n r).isRunning = d.isRunning := by
    refine Device.isRunning_of_drives ?_
    unfold Device.loadSign
    dsimp only
    split_ifs <;> simp
  unfold judgeLoadSign
  split
  · rfl
  split
  · rfl
  split
  · rfl
  split
  · rfl
  split
  · rfl
  split
  · rfl
  · exact load _ _

theorem judgeLoadGroup_isRunning (g n : Nat) : (judgeLoadGroup g n d).dev.isRunning = d.isRunning := by
  unfold judgeLoadGroup
  split_ifs <;> rfl

theorem judgeLoadRule_isRunning (b : LoadRuleBody) : (judgeLoadRule b d).dev.isRunning = d.isRunning := by
  unfold judgeLoadRule
  split_ifs
  · rfl
  · rfl
  · split <;> rfl

end Loads

/-! ### The events of the field, the timers and the link -/

@[simp] theorem Device.mainsMoves_drives (d : Device) (failed : Bool) : (d.mainsMoves failed).drives = d.drives :=
  Device.report_drives _ _ _ _

theorem DriveLaw.dropStations {d : Device} (hd : DriveLaw d) : DriveLaw d.dropStations := by
  refine forEach_keeps DriveLaw 32 _ d hd fun n t ht => ?_
  split
  · exact ht
  · exact ht.setDemands n _

/-- The loss of the host removes STATION demands, and each drive follows (R87, R188). -/
theorem DriveLaw.loseHost {d : Device} (hd : DriveLaw d) : DriveLaw d.loseHost := by
  have blocks {e : Device} (he : DriveLaw e) :
      DriveLaw ((e.promoteVerify .autonomous).releaseAllCalls.dropStations).endTests := by
    have released : DriveLaw (e.promoteVerify .autonomous).releaseAllCalls := he.congr (by simp)
    exact released.dropStations.congr (Device.endTests_drives _)
  have slots {e : Device} (he : DriveLaw e) : DriveLaw (e.updLink fun l => { l with slots := Vector.replicate 9 none }) :=
    he.congr rfl
  have start : DriveLaw { d with sup := { d.sup with mode := .autonomous d.clock } } := hd.congr rfl
  unfold Device.loseHost
  dsimp only
  split_ifs
  · exact slots (blocks start)
  · exact slots start

theorem DriveLaw.stationEnds {d : Device} (hd : DriveLaw d) (n : Nat) : DriveLaw (d.stationEnds n) := by
  unfold Device.stationEnds
  split
  · exact hd
  · exact hd.setDemands n _

/-- A change of a door's record beside its command keeps the law. -/
theorem LifeLaw.updDoor {d : Device} (hd : LifeLaw d) (n : Nat) {f : Door → Door} (hf : ∀ r, (f r).command = r.command) :
    LifeLaw (d.updDoor n f) := hd.congr (d.updDoor_drives n hf) rfl

theorem LifeLaw.report {d : Device} (hd : LifeLaw d) (c : ReportClass) (o : Nat) (x : ReportState) :
    LifeLaw (d.report c o x) := hd.congr (d.report_drives c o x) rfl

theorem LifeLaw.changeCondition {d : Device} (hd : LifeLaw d) (n : Nat) (c : DoorCondition) :
    LifeLaw (d.changeCondition n c) :=
  hd.congr (d.changeCondition_drives n c) (Device.fireView_of_base (d.changeCondition_base n c))

theorem LifeLaw.nodeSilent {d : Device} (hd : LifeLaw d) (n : Nat) : LifeLaw (d.nodeSilent n) :=
  ((hd.updDoor n fun _ => by rfl).report _ _ _).changeCondition n _

theorem LifeLaw.confirmEnds {d : Device} (hd : LifeLaw d) (n : Nat) : LifeLaw (d.confirmEnds n) :=
  (hd.updDoor n fun _ => by rfl).changeCondition n _

theorem LifeLaw.heldEnds {d : Device} (hd : LifeLaw d) (n : Nat) : LifeLaw (d.heldEnds n) :=
  (hd.updDoor n fun _ => by rfl).changeCondition n _

theorem LifeLaw.nextExchange {d : Device} (hd : LifeLaw d) : LifeLaw d.nextExchange := by
  refine hd.congr d.nextExchange_drives ?_
  unfold Device.nextExchange
  split
  · rfl
  · split <;> rfl

theorem LifeLaw.nextSend {d : Device} (hd : LifeLaw d) : LifeLaw d.nextSend := by
  refine hd.congr d.nextSend_drives ?_
  unfold Device.nextSend
  split
  · rfl
  · split <;> rfl

theorem LifeLaw.stepEnds {d : Device} (hd : LifeLaw d) (g : Nat) : LifeLaw (d.stepEnds g) := by
  unfold Device.stepEnds
  dsimp only
  split
  · split_ifs
    · exact LifeLaw.settleSigns (hd.congr rfl rfl)
    · exact hd.settleSigns_changeGroup g _
  · exact hd

theorem LifeLaw.discardFrame {d : Device} (hd : LifeLaw d) (timeout : Bool) (bytes : List Byte) :
    LifeLaw (d.discardFrame timeout bytes) := by
  unfold Device.discardFrame
  split_ifs
  · exact hd.congr rfl rfl
  · exact hd

theorem lifeLaw_warmRestart (d : Device) : LifeLaw d.warmRestart := (lifeLaw_warmed _).transmit

/-! ### Every command -/

/-- Whatever state the outcome goes on to, it has the law. -/
def LeavesLife (o : Host.Outcome State Fault Refusal) : Prop := ∀ t, o = .next t → LifeLaw t.dev

theorem LeavesLife.after {s : State} {d : Device} (h : LifeLaw d) : LeavesLife (s.after d) := by
  rintro _ ⟨⟩; exact h

theorem Device.parsed_isRunning {α : Type} (d : Device) (x : Option α) {f : α → Answer}
    (hf : ∀ a, (f a).dev.isRunning = d.isRunning) : (d.parsed x f).dev.isRunning = d.isRunning := by
  cases x with
  | none => rfl
  | some a => exact hf a

/-- A request keeps the law if its own rule does. -/
theorem LeavesLife.request {s : State} (hs : LifeLaw s.dev) {g : Gate} {h : Header} {body : List Byte}
    {judge : Option Nat → Device → Answer} (hj : ∀ run e, LifeLaw e → LifeLaw (judge run e).dev) :
    LeavesLife (s.after (s.dev.request g h body judge)) := .after (hs.request g h body hj)

/-- A request that loads a record keeps the law if its own rule leaves the operating state. -/
theorem LeavesLife.load {s : State} (hs : LifeLaw s.dev) {g : Gate} {h : Header} {body : List Byte} {α : Type} (x : Option α)
    {judge : α → Device → Answer} (hj : ∀ b e, (judge b e).dev.isRunning = e.isRunning) :
    LeavesLife (s.after (s.dev.request g h body fun _ d => d.whenCommissioning (d.parsed x fun b => judge b d))) :=
  .request hs fun _ d hd => hd.whenCommissioning (d.parsed_isRunning x fun b => hj b d)

/-- An event that leaves the commands to its end keeps the law. -/
theorem LeavesLife.event {s : State} (hs : LifeLaw s.dev) {occurs : Bool} {f : Device → Device}
    (hf : (f s.dev).drives = s.dev.drives) : LeavesLife (s.after (s.dev.event occurs f)) :=
  .after (hs.event occurs (hs.driveLaw.congr hf))

theorem LeavesLife.eventAlone {s : State} (hs : LifeLaw s.dev) {occurs : Bool} {f : Device → Device}
    (hf : LifeLaw (f s.dev)) : LeavesLife (s.after (s.dev.eventAlone occurs f)) :=
  .after (hs.eventAlone occurs hf)

theorem LeavesLife.frameSent {s : State} (hs : LifeLaw s.dev) : LeavesLife (execFrameSent s) := by
  refine .after ?_
  split_ifs
  · exact hs
  · exact lifeLaw_warmRestart _
  · exact LifeLaw.transmit (hs.congr rfl rfl)

theorem LeavesLife.commitCompletion {s : State} (hs : LifeLaw s.dev) : LeavesLife (execCommitCompletion s) := by
  refine .after ?_
  split
  · exact hs
  · split_ifs
    · exact (hs.completeCommit _).transmit
    · exact hs

theorem LeavesLife.warmRestart {s : State} (hs : LifeLaw s.dev) : LeavesLife (execWarmRestart s) := by
  refine .after ?_
  split_ifs
  · exact lifeLaw_warmRestart _
  · exact hs

theorem LeavesLife.timeBaseTick {s : State} (hs : LifeLaw s.dev) : LeavesLife (execTimeBaseTick s) := by
  refine .after ?_
  split_ifs
  · exact hs.congr rfl rfl
  · exact hs

/-- Every command keeps the law of the LIFE demand. -/
theorem exec_leavesLife {s : State} (hs : LifeLaw s.dev) (i : Instr) : LeavesLife (exec i s) :=
  match i with
  | .pulseA _ _ => .request hs fun _ _ hd => hd.congr rfl rfl
  | .pulseB _ _ => .request hs fun _ _ hd => hd.judgePulseB
  | .superviseSet _ _ => .request hs fun _ _ hd => hd.parsed _ hd.judgeSuperviseSet
  | .resume _ _ => .request hs fun _ _ hd => hd.judgeResume
  | .restart _ _ => .request hs fun _ _ hd => hd.abandonCommit.congr rfl rfl
  | .range h _ => .request hs fun _ _ hd => hd.parsed _ (hd.judgeRange h.station)
  | .reportMask _ _ => .request hs fun _ _ hd => hd.parsed _ hd.judgeReportMask
  | .queryPoint _ _ => .request hs fun _ _ hd => hd.parsed _ hd.judgeQueryPoint
  | .queryZone _ _ => .request hs fun _ _ hd => hd.parsed _ hd.judgeQueryZone
  | .queryDoor _ _ => .request hs fun _ _ hd => hd.parsed _ hd.judgeQueryDoor
  | .queryCalls _ _ => .request hs fun _ _ hd => hd.parsed _ hd.judgeQueryCalls
  | .queryPlan _ _ => .request hs fun _ _ hd => hd.parsed _ hd.judgeQueryPlan
  | .querySign _ _ => .request hs fun _ _ hd => hd.parsed _ hd.judgeQuerySign
  | .queryRule _ _ => .request hs fun _ _ hd => hd.parsed _ hd.judgeQueryRule
  | .queryStatus _ _ => .request hs fun _ _ hd => hd.parsed _ fun _ => hd.ok _
  | .queryResetCause _ _ => .request hs fun _ _ hd => hd.parsed _ fun _ => hd.congr rfl rfl
  | .loadZone _ _ => .load hs _ fun b d => judgeLoadZone_isRunning d b
  | .loadPoint _ _ => .load hs _ fun b d => judgeLoadPoint_isRunning d b
  | .loadClass _ _ => .load hs _ fun b d => judgeLoadClass_isRunning d b
  | .loadDoor _ _ => .load hs _ fun b d => judgeLoadDoor_isRunning d b
  | .loadPassage _ _ => .load hs _ fun b d => judgeLoadPassage_isRunning d b
  | .loadSign _ _ => .load hs _ fun b d => judgeLoadSign_isRunning d b
  | .loadGroup _ _ => .load hs _ fun b d => judgeLoadGroup_isRunning d b.1 b.2
  | .loadRule _ _ => .load hs _ fun b d => judgeLoadRule_isRunning d b
  | .loadLimits _ _ => .load hs _ fun _ _ => rfl
  | .commit _ _ => .request hs fun _ _ hd => hd.whenCommissioning rfl
  | .edit _ _ => .request hs fun _ _ hd => hd.judgeEdit
  | .setRegime _ _ => .request hs fun _ _ hd => hd.parsed _ hd.judgeSetRegime
  | .clearLatches _ _ => .request hs fun _ _ hd => hd.judgeClearLatches
  | .ackAlarm h _ => .request hs fun _ _ hd => hd.whenRunning (hd.fromGuard h fun n => hd.parsed _ (hd.judgeAckAlarm n))
  | .cancelVerify h _ => .request hs fun _ _ hd => hd.whenRunning (hd.fromGuard h fun _ => hd.parsed _ hd.judgeCancelVerify)
  | .resetFire _ _ => .request hs fun _ _ hd => hd.whenRunning (hd.parsed _ hd.judgeResetFire)
  | .silence _ _ => .request hs fun _ _ hd => hd.whenRunning ((hd.shiftSounders _ _).ok _)
  | .resound _ _ => .request hs fun _ _ hd => hd.whenRunning ((hd.shiftSounders _ _).ok _)
  | .armZone _ _ => .request hs fun run _ hd => hd.whenRunning (hd.parsed _ (hd.judgeArmZone run))
  | .disarmZone _ _ => .request hs fun run _ hd => hd.whenRunning (hd.parsed _ (hd.judgeDisarmZone run))
  | .resetIntruder _ _ => .request hs fun _ _ hd => hd.whenRunning (hd.parsed _ hd.judgeResetIntruder)
  | .disablePoint _ _ => .request hs fun run _ hd => hd.parsed _ (hd.judgeDisablePoint run)
  | .enablePoint _ _ => .request hs fun run _ hd => hd.parsed _ (hd.judgeEnablePoint run)
  | .doorGuard h _ => .request hs fun run _ hd => hd.whenRunning (hd.parsed _ (hd.judgeDoorGuard run h.station.toNat))
  | .schedule _ _ => .request hs fun run _ hd => hd.whenRunning (hd.parsed _ fun b => hd.judgeSchedule run b.1 b.2)
  | .claimCall h _ => .request hs fun _ _ hd => hd.parsed _ fun n => hd.onCall h n hd.judgeClaimCall
  | .releaseCall h _ => .request hs fun _ _ hd => hd.parsed _ fun n => hd.onCall h n hd.judgeReleaseCall
  | .closeCall h _ => .request hs fun _ _ hd => hd.parsed _ fun n => hd.onCall h n hd.judgeCloseCall
  | .groupStop _ _ => .request hs fun _ _ hd => hd.parsed _ fun g => hd.toGroup g .stopped
  | .groupRun _ _ => .request hs fun _ _ hd => hd.parsed _ fun g => hd.toGroup g .run
  | .testStart _ _ => .request hs fun _ _ hd => hd.parsed _ hd.judgeTestStart
  | .unknownKind kind h _ => .after (hs.requestUnknown kind h)
  | .frameDiscard bytes => .after (hs.discardFrame false bytes)
  | .frameByteTimeout bytes => .after (hs.discardFrame true bytes)
  | .frameSent => .frameSent hs
  | .commitCompletion => .commitCompletion hs
  | .warmRestart => .warmRestart hs
  | .powerOn => .after (hs.powerChange _ _)
  | .resetLine => .after (hs.powerChange _ _)
  | .mainsChange failed =>
    .event (s := { s with dev := { s.dev with inputs := { s.dev.inputs with mainsFailed := failed } } }) (hs.congr rfl rfl)
      (Device.mainsMoves_drives _ failed)
  | .timeBaseTick => .timeBaseTick hs
  | .supervisionExpiry => .after (hs.event _ hs.driveLaw.loseHost)
  | .loopAnswer l code reading tamper =>
    .event hs (s.dev.completeExchange_drives l fun a e => e.takeAnswer_drives l a code reading.toNat tamper)
  | .loopNoAnswer l => .event hs (s.dev.completeExchange_drives l fun a e => e.takeNoAnswer_drives l a)
  | .fireTimerExpiry z => .event hs (s.dev.phaseEnds_drives z)
  | .alarmHoldExpiry => .event hs s.dev.holdEnds_drives
  | .exitDelayExpiry z => .event hs (s.dev.exitEnds_drives z)
  | .entryDelayExpiry z => .event hs (s.dev.entryEnds_drives z)
  | .stationDemandExpiry n => .after (hs.event _ (hs.driveLaw.stationEnds n))
  | .confirmTimerExpiry n => .eventAlone hs (hs.confirmEnds n)
  | .heldTimerExpiry n => .eventAlone hs (hs.heldEnds n)
  | .shuntTimerExpiry n => .eventAlone hs (hs.updDoor n fun _ => by rfl)
  | .nodeWatchExpiry n => .eventAlone hs (hs.nodeSilent n)
  | .doorStatus leaf lock rex => .event hs (s.dev.statusArrives_drives leaf lock rex)
  | .doorExchangeUnanswered => .eventAlone hs hs.nextExchange
  | .signSendComplete => .eventAlone hs hs.nextSend
  | .ruleDelayExpiry e => .after (hs.event _ (hs.applyOutcomes _).driveLaw)
  | .answerTimerExpiry n => .event hs (s.dev.escalate_drives n)
  | .stepTimerExpiry g => .eventAlone hs (hs.stepEnds g)
  | .routePassCompletion => .event hs s.dev.passEnds_drives
  | .supplyBelowWorkingLevel => .after (hs.congr rfl rfl)
  | .resetInputHeld => .after (hs.congr rfl rfl)

/-! ### The statement -/

theorem LifeLaw.step {s t : State} (hs : LifeLaw s.dev) (h : step s = .next t) : LifeLaw t.dev := by
  unfold Machine.step at h
  split at h
  case h_1 => cases h; exact hs
  case h_2 i rest _ => exact exec_leavesLife (s := { s with pending := rest }) hs i t h

/-- A door has a demand at the level LIFE, and its drive is that demand (R83). -/
theorem Demands.drive_of_life {m : Demands} {k : DoorKind} {v w : Drive} {l : Level} (hl : m.life = some v)
    (h : (w, l) = m.top k) : w = v := by
  simp only [Demands.top, hl, Prod.mk.injEq] at h
  exact h.1

/-- A door named by a passage of a zone in a state that satisfies `f` touches such a zone (R84). -/
theorem Device.doorTouches_of_passage {d : Device} {i n : Nat} {p : Passage} {f : Fire → Bool} (hp : d.passage? i = some p)
    (hn : p.door = some n) (hf : f (d.fire p.a) = true ∨ f (d.fire p.b) = true) : d.doorTouches n f = true := by
  refine List.any_eq_true.mpr ⟨i, List.mem_range.mpr (Tab.get?_lt hp), ?_⟩
  simpa [hp, hn] using hf

/-- Settles O49: `exec_leavesLife` keeps the law, and under it a LIFE demand is the drive of its door. -/
theorem lifeKept : Obligations.LifeKept := by
  intro s t hs h
  have ht : LifeLaw t.dev := hs.step h
  refine ⟨ht, fun n r i p hr hd hp hn => ?_⟩
  obtain ⟨egress, fireLeaf, -, drive⟩ := ht hr n r hd
  refine ⟨fun hk hf => ?_, fun hk hf => ?_⟩
  · have life : r.demands.life = some .unlock := by rw [egress hk, if_pos (Device.doorTouches_of_passage hp hn hf)]
    exact Demands.drive_of_life life drive
  · have life : r.demands.life = some .close := by rw [fireLeaf hk, if_pos (Device.doorTouches_of_passage hp hn hf)]
    exact Demands.drive_of_life life drive

end Sys2Proof.Machine

/-! SUPPORT. Chapter 6: the codes of the combine functions (R111) and the outcome of a judged entry (R114); and the statement
about both settled from them. -/

namespace Sys2Proof.Machine

/-! ### The combine functions (R111) -/

/-- The code of a combine function: `Combine` lists its constructors in the order of their codes. -/
def Combine.code (f : Combine) : Nat := f.ctorIdx

theorem Combine.code_of_ofCode {n : Nat} {f : Combine} (h : Combine.ofCode n = some f) : f.code = n := by
  unfold Combine.ofCode at h
  split at h <;> cases h <;> rfl

theorem Combine.code_lt (f : Combine) : f.code < 16 := by
  cases f <;> decide

theorem Combine.ofCode_ne_none : ∀ n, n < 16 → Combine.ofCode n ≠ none := by decide

/-- The bits of a code are its function's truth table, in the order of the pairs (A, B) with A the higher digit. -/
theorem Combine.eval_eq_testBit (f : Combine) (a b : Bool) : f.eval a b = f.code.testBit (2 * a.toNat + b.toNat) := by
  revert a b
  cases f <;> decide

/-! ### The outcome of a judged entry (R114): the truth, then the delay, the latch and the present outcome -/

section Judge
variable {r : Rule} {now : Seconds}

theorem Rule.judge_true_of_delay_eq_zero (hd : r.delay = 0) : r.judge true now = .on := by
  cases h : r.outcome with
  | off => simp [Rule.judge, h, hd]
  | delaying tm => simp [Rule.judge, h, hd]
  | on => simp [Rule.judge, h]

theorem Rule.judge_true_of_off (hd : 0 < r.delay) (h : r.outcome = .off) :
    r.judge true now = .delaying ⟨now, r.delay⟩ := by
  simp [Rule.judge, h, hd.ne']

theorem Rule.judge_true_of_delaying (hd : 0 < r.delay) {tm : Timer} (h : r.outcome = .delaying tm) :
    r.judge true now = .delaying tm := by
  simp [Rule.judge, h, hd.ne']

theorem Rule.judge_true_of_on (h : r.outcome = .on) : r.judge true now = .on := by
  simp [Rule.judge, h]

theorem Rule.judge_false_of_on (h : r.outcome = .on) : r.judge false now = if r.latch then .on else .off := by
  simp [Rule.judge, h]

theorem Rule.judge_false_of_ne_on (h : r.outcome ≠ .on) : r.judge false now = .off := by
  cases ho : r.outcome with
  | off => simp [Rule.judge, ho]
  | delaying tm => simp [Rule.judge, ho]
  | on => exact absurd ho h

theorem Rule.judge_of_latched (truth : Bool) (h : r.outcome = .on) (hl : r.latch = true) : r.judge truth now = .on := by
  cases truth with
  | false => rw [Rule.judge_false_of_on h, if_pos hl]
  | true => exact Rule.judge_true_of_on h

theorem Rule.judge_false_of_unlatched (hl : r.latch = false) : r.judge false now = .off := by
  by_cases h : r.outcome = .on
  · simp [Rule.judge_false_of_on h, hl]
  · exact Rule.judge_false_of_ne_on h

end Judge

/-! ### The statement -/

/-- Settles O41: the truth tables by the codes' bits, and the table of R114 row by row. -/
theorem outcomeTable : Obligations.OutcomeTable := by
  refine ⟨fun code f h => ?_, Combine.ofCode_ne_none, fun r now => ⟨fun hd _ => Rule.judge_true_of_delay_eq_zero hd,
    Rule.judge_true_of_off, fun hd _ => Rule.judge_true_of_delaying hd, fun _ => Rule.judge_true_of_on,
    Rule.judge_of_latched, ?_⟩⟩
  · obtain rfl := Combine.code_of_ofCode h
    refine ⟨f.code_lt, fun a b => ?_⟩
    rw [f.eval_eq_testBit a b]
    cases a <;> cases b <;> rfl
  · rintro (hl | hne)
    · exact Rule.judge_false_of_unlatched hl
    · exact Rule.judge_false_of_ne_on hne

end Sys2Proof.Machine

/-! SUPPORT. Section 10.6: how a report joins the queue, masked, in place, appended or by overflow (R174 to R176), and what a free
line begins once a frame has been sent (R173, R175); and the statement about both settled from them. -/

namespace Sys2Proof.Machine

/-! ### A report joins the queue: the four branches (R174, R175, R176) -/

theorem Report.map_replace_eq_self {r : Report} {q : List Report} (h : ∀ x ∈ q, r.same x = false) :
    (q.map fun x => if r.same x then r else x) = q :=
  (List.map_congr_left fun x hx => by simp [h x hx]).trans q.map_id

theorem Report.map_replace_append_cons {r x : Report} {pre post : List Report} (hx : r.same x = true)
    (h : ∀ q ∈ pre ++ post, r.same q = false) :
    ((pre ++ x :: post).map fun y => if r.same y then r else y) = pre ++ r :: post := by
  obtain ⟨hpre, hpost⟩ := List.forall_mem_append.mp h
  rw [List.map_append, List.map_cons, if_pos hx, map_replace_eq_self hpre, map_replace_eq_self hpost]

section Queue
variable {l : Link} {r : Report}

theorem Link.queue_of_masked (hm : l.masks.has r.cls = true) : l.queue r = l := if_pos hm

theorem Link.queue_of_same (hm : l.masks.has r.cls = false) (hs : l.reports.any r.same = true) :
    l.queue r = { l with reports := l.reports.map fun x => if r.same x then r else x } := by
  simp [Link.queue, hm, hs]

theorem Link.queue_of_new_of_room (hm : l.masks.has r.cls = false) (hn : l.reports.any r.same = false)
    (hlt : l.reports.length < reportCapacity) : l.queue r = { l with reports := l.reports ++ [r] } := by
  simp only [Link.queue, hm, hn, hlt, if_true, Bool.false_eq_true, if_false]

theorem Link.queue_of_new_of_full (hm : l.masks.has r.cls = false) (hn : l.reports.any r.same = false)
    (hfull : l.reports.length = reportCapacity) :
    l.queue r = { l with reports := overflow l.reports r, gapMark := true } := by
  simp only [Link.queue, hm, hn, hfull, lt_irrefl, Bool.false_eq_true, if_false]

end Queue

/-! ### The overflow of a full queue (R175) -/

/-- The oldest report that is not FIRE gives way. -/
theorem overflow_of_oldest_not_fire {pre post : List Report} {x : Report} (r : Report) (hpre : ∀ q ∈ pre, q.cls = .fire)
    (hx : x.cls ≠ .fire) : overflow (pre ++ x :: post) r = pre ++ post ++ [r] := by
  have hany : (pre ++ x :: post).any (fun q => q.cls != .fire) = true :=
    List.any_eq_true.mpr ⟨x, by simp, by simpa using hx⟩
  have herase : (pre ++ x :: post).eraseP (fun q => q.cls != .fire) = pre ++ post := by
    rw [List.eraseP_append_right _ fun q hq => by simp [hpre q hq], List.eraseP_cons_of_pos (by simpa using hx)]
  rw [overflow, if_pos hany, herase]

theorem overflow_of_all_fire {q : List Report} (r : Report) (hq : ∀ x ∈ q, x.cls = .fire) :
    overflow q r = if r.cls = .fire then q.tail ++ [r] else q := by
  have hany : ¬ q.any (fun x => x.cls != .fire) = true := by simpa using hq
  rw [overflow, if_neg hany]

/-! ### A free line begins the next frame (R173, R175) -/

theorem Link.transmit_of_report {l : Link} {r : Report} {rs : List Report} (ht : l.tx = none) (hp : l.replies = [])
    (hr : l.reports = r :: rs) :
    l.transmit = { l with tx := some (.report { r with gap := l.gapMark }), reports := rs, gapMark := false } := by
  simp only [Link.transmit, ht, hp, hr]

theorem Link.transmit_of_nothing_waiting {l : Link} (ht : l.tx = none) (hp : l.replies = []) (hr : l.reports = []) :
    l.transmit = l := by
  simp only [Link.transmit, ht, hp, hr]

/-- FRAME_SENT, where no warm restart is due, frees the line, which begins the next frame (R173). -/
theorem exec_frameSent_of_sending {s : State} {f : TxFrame} (hup : s.dev.up = true) (ht : s.dev.link.tx = some f)
    (hr : s.dev.link.restartReplySent = false) :
    exec .frameSent s = s.after { s.dev with link := ({ s.dev.link with tx := none } : Link).transmit } := by
  have harm : exec .frameSent s = execFrameSent s := rfl
  simp [harm, execFrameSent, hup, ht, hr, Device.transmit, Device.updLink]

/-! ### The statement -/

/-- Settles O6: the branches of the queue, the overflow by what the full queue holds, and the two cases of a line with no reply
waiting. -/
theorem reportQueue : Obligations.ReportQueue := by
  refine ⟨fun l r hm => Link.queue_of_masked hm, fun l r pre post x hm hl hx hrest => ?inPlace,
    fun l r hm hnew => ?new, fun s f hup ht hr => ?sent⟩
  case inPlace =>
    have hs : l.reports.any r.same = true := List.any_eq_true.mpr ⟨x, by simp [hl], hx⟩
    rw [Link.queue_of_same hm hs, hl, Report.map_replace_append_cons hx hrest]
  case new =>
    have hn : l.reports.any r.same = false := by simpa using hnew
    refine ⟨Link.queue_of_new_of_room hm hn, fun hfull => ?_⟩
    rw [Link.queue_of_new_of_full hm hn hfull]
    refine ⟨fun pre post x hl hpre hx => ?_, fun hall hfire => ?_, fun hall hfire => ?_⟩
    · rw [hl, overflow_of_oldest_not_fire r hpre hx]
    · rw [overflow_of_all_fire r hall, if_pos hfire, List.drop_one]
    · rw [overflow_of_all_fire r hall, if_neg hfire]
  case sent =>
    rw [exec_frameSent_of_sending hup ht hr]
    refine ⟨fun hp r rs hrs => ?_, fun hp hrs => ?_⟩
    · rw [Link.transmit_of_report (l := { s.dev.link with tx := none }) rfl hp hrs]
    · rw [Link.transmit_of_nothing_waiting (l := { s.dev.link with tx := none }) rfl hp hrs]

end Sys2Proof.Machine
